-- ==== Sys2Proof/Word.lean ====
section
/-! DEFINITION. The word types of the DF3208: window words, frame numbers, samples. -/
namespace Sys2Proof

/-- One 32-bit word of the register window (chapter 11.2). -/
abbrev Word := BitVec 32

/-- A window offset, 000h to FFFh (the window is 1000h bytes, chapter 11.2). -/
abbrev WinOffset := BitVec 12

/-- A frame number: 16 bits, arithmetic modulo 65536 (R23). -/
abbrev FrameNo := BitVec 16

/-- A node's 32-bit identity: maker, model, instance (R14). -/
abbrev Identity := BitVec 32

/-- One pool entry, wide enough for a 32-bit sample (R115). -/
abbrev Sample := BitVec 32

end Sys2Proof
end

