-- ==== Sys2Proof/Syntax.lean ====
section
/-! DEFINITION. The commands of the block: one constructor per row of spec/opcode_table.json. -/
namespace Sys2Proof

/-- The direction of a host access to the register window (R160). -/
inductive Access where
  | read
  | write
  deriving DecidableEq, Repr

/-- A command of the DF3208: a change of a pin, an access of the host through the register window, or an
event of the frame. The rows of the table carry no operands of their own, so the operands here are those
the rules name: the word written, the stream number, the bits read from LDAT. -/
inductive Instr where
  /-- RESET_N goes low (R35, R163). -/
  | resetN
  /-- REFCLK stops (R163). -/
  | refclkStop
  /-- A CONTROL write whose only action bit is SOFT_RESET (R24, R35). -/
  | softReset
  /-- A CONTROL write whose only action bit is LINK_START (R25). -/
  | linkStart
  /-- A CONTROL write whose only action bit is LINK_STOP (R27). -/
  | linkStop
  /-- A CONTROL write whose only action bit is FAULT_CLEAR (R30). -/
  | faultClear
  /-- A frame start: the beginning of bit position 0 of the next frame (R1). -/
  | frameStart
  /-- The end of the last frame-number bit. `line` is the 24 bits read back, first bit most significant (R3). -/
  | readbackComparison (line : BitVec 24)
  /-- The end of the last frame-number bit of the third consecutive contention frame (R32). -/
  | contentionFault
  /-- The frame start that ends the sixteen sync frames (R26). -/
  | syncComplete
  /-- The sending of an IDENTIFY in the frame's command field (R14). -/
  | identify
  /-- The sending of an ASSIGN (R15). -/
  | assign
  /-- The sending of a PING (R10). -/
  | ping
  /-- The sending of a READ (R11). -/
  | read
  /-- The sending of a WRITE (R11). -/
  | write
  /-- The sending of a SLOT_SET (R12). -/
  | slotSet
  /-- The sending of a SLOT_CLEAR (R12). -/
  | slotClear
  /-- The sending of a SWITCH copy (R103). -/
  | switch
  /-- The sending of a CANCEL copy (R105). -/
  | cancel
  /-- The sending of a PARK (R13). -/
  | park
  /-- The sending of a RESUME (R13). -/
  | resume
  /-- The sending of an UNBIND (R13). -/
  | unbind
  /-- The end of the last command-field bit (R1, R36). -/
  | commandFieldSent
  /-- The end of the command field that carried the third CANCEL copy (R105). -/
  | cancelComplete
  /-- Response arrival. `field` is the 32 bits read, the bit of position 76 most significant (R7). -/
  | responseArrival (field : BitVec 32)
  /-- A response arrival whose WAIT takes the wait count above the wait limit (R42). -/
  | waitLimitExceeded (field : BitVec 32)
  /-- A response arrival whose failed attempt has no retry left (R43). -/
  | retriesSpent (field : BitVec 32)
  /-- A response arrival whose missing answer brings the miss count to the loss limit (R50). -/
  | lossLimitReached (field : BitVec 32)
  /-- A response arrival that ends the survey's third failing ASSIGN (R73). -/
  | electionFailed (field : BitVec 32)
  /-- The frame start of the switch frame T (R104). -/
  | switchInstall
  /-- Frame end. `payload` is the payload bits as sampled, the bit of position 128 first; a position past
  the end of the list was driven by nobody and reads 1 (R2). -/
  | frameEnd (payload : List Bool)
  /-- The frame end of the second quiet frame (R29). -/
  | quietFramesEnd (payload : List Bool)
  /-- A write of `w` to LINK_CFG (R22). -/
  | linkCfg (w : Word)
  /-- A write of `w` to XCHG_CFG (R54). -/
  | xchgCfg (w : Word)
  /-- A write of any value to LINK_ERRORS (R31, R44). -/
  | linkErrorsClear
  /-- A write to SURVEY with the start bit set (R69). -/
  | surveyStart
  /-- A write to COMMIT selecting CHECK (R96). -/
  | commitCheck
  /-- A write to COMMIT selecting APPLY (R98). -/
  | commitApply
  /-- A write of any value to CHG_APPEND (R87). -/
  | chgAppend
  /-- A write of any value to CHG_CLEAR (R88). -/
  | chgClear
  /-- A write of any value to REQ_SUBMIT (R142). -/
  | reqSubmit
  /-- A write of any value to REQ_FLUSH (R144). -/
  | reqFlush
  /-- A write of any value to CPL_POP (R149). -/
  | cplPop
  /-- A write of any value to GAP_POP (R159). -/
  | gapPop
  /-- A write of `w` to EVT_CLEAR (R151). -/
  | evtClear (w : Word)
  /-- A write of `w` to SEVT_CLEAR (R151). -/
  | sevtClear (w : Word)
  /-- A write of `w` to EVT_ENABLE (R153). -/
  | evtEnable (w : Word)
  /-- A write of `w` to SEVT_ENABLE (R153). -/
  | sevtEnable (w : Word)
  /-- A write of any value to FAULT_RECORD (R157). -/
  | faultRecordClear
  /-- A write of `w` to the CFG word of stream `n` (R113). -/
  | streamCfg (n : Fin 8) (w : Word)
  /-- A write of `w` to the LEVELS word of stream `n` (R114). -/
  | streamLevels (n : Fin 8) (w : Word)
  /-- A CTRL write of stream `n` with action ENABLE and DMA enable bit `dma` (R116, R118). -/
  | streamEnable (n : Fin 8) (dma : Bool)
  /-- A CTRL write of stream `n` with action DISABLE and DMA enable bit `dma` (R116, R119). -/
  | streamDisable (n : Fin 8) (dma : Bool)
  /-- A CTRL write of stream `n` with no action and DMA enable bit `dma` (R116). -/
  | dmaEnable (n : Fin 8) (dma : Bool)
  /-- A write of any value to the COUNTS word of stream `n` (R126). -/
  | countsClear (n : Fin 8)
  /-- A read of DATA_PORT[n] (R131 to R133). -/
  | captureRead (n : Fin 8)
  /-- A write of `w` to DATA_PORT[n] (R131, R134, R135). -/
  | playbackWrite (n : Fin 8) (w : Word)
  /-- An access to an unmapped word of the window (R160). -/
  | unmapped (offset : WinOffset) (access : Access)
  /-- A write of `value` to the window at `offset`, carrying the bytes named in `lanes` (bit i of `lanes`
  is byte i of the word). It is how a register with no row of its own is written (R160, R161). -/
  | registerWrite (offset : WinOffset) (value : Word) (lanes : BitVec 4)
  /-- RESET_N rises (R35, R163). -/
  | resetNRelease
  /-- REFCLK runs again after a stop (R163). -/
  | refclkRestart
  deriving DecidableEq, Repr

end Sys2Proof
end

