-- ==== Sys2Proof/Decode.lean ====
section
/-! DEFINITION. The command a word spells. spec/opcode_table.json gives no row any bits: the commands of this block
are pin changes, register accesses and frame events, which no instruction word encodes. -/
namespace Sys2Proof

/-- The command an `nbits`-bit word `w` spells: none, since no row of the table has bits. -/
def decodeTableWord (_nbits _w : Nat) : Option Instr := none

end Sys2Proof
end

