-- ==== Sys2Proof/Config.lean ====
section
/-! DEFINITION. The quantities fixed by the design (00_scope.md, Key Figures). The spec leaves no value of
this part open, so the file holds no free value. -/
namespace Sys2Proof.Config

/-- The sync pattern B2h (R3). -/
def syncPattern : BitVec 8 := 0xB2#8

/-- What a read of ID returns: family code D32h, revision 11h (chapter 11.3). -/
def idWord : Word := 0xD3200011#32

/-- Sync frames at link start (R26). -/
def syncFrames : Nat := 16

/-- Quiet frames at drain (R29). -/
def quietFrames : Nat := 2

/-- Consecutive contention frames that put the link into FAULT (R31). -/
def contentionLimit : Nat := 3

/-- SWITCH copies, and CANCEL copies, of one commit (R103, R105). -/
def broadcastCopies : Nat := 3

/-- The switch frame is this many frames after the frame of the first SWITCH copy (R103). -/
def switchLead : FrameNo := 4

/-- Failed ASSIGNs that end a survey (R73). -/
def electionLimit : Nat := 3

/-- Change records the change list can hold (R85). -/
def changeListSize : Nat := 16

/-- Requests the host request queue can hold (R143). -/
def requestQueueSize : Nat := 8

/-- Records the completion list can hold (R149). -/
def completionListSize : Nat := 16

/-- Records the gap list can hold (R158). -/
def gapListSize : Nat := 16

/-- Entries of the sample pool (R115). -/
def poolSize : Nat := 1024

/-- The largest capacity of one stream (R112). -/
def maxCapacity : Nat := 512

/-- The first bit position of the payload region (R1). -/
def payloadStart : Nat := 128

end Sys2Proof.Config
end

