-- ==== Sys2Proof/Machine/State.lean ====
section
/-! DEFINITION. The state of the DF3208, block by block as 00_scope.md names the blocks, and the state after
a device reset. Everything here is plain data. -/
namespace Sys2Proof.Machine

/-! ### Names shared by several blocks -/

/-- The directory address of a node, 1 to 14, held as its position 0 to 13 in the directory (R56). -/
abbrev NodeAddr := Fin 14

/-- The direction of a slot or stream (R78): CAPTURE is node to hub, PLAYBACK is hub to node. -/
inductive Dir where
  | capture
  | playback
  deriving DecidableEq, Repr

/-- A sample width (R9, R78). -/
inductive Width where
  | w8
  | w16
  | w20
  | w24
  | w32
  deriving DecidableEq, Repr

/-! ### Frame Engine -/

/-- The five link states (R23, chapter 2.3). -/
inductive LinkState where
  | down
  | syncing
  | up
  | draining
  | fault
  deriving DecidableEq, Repr

/-- The frame length code n and the divisor DIV (R20, R21), at the widths of the LINK_CFG word. -/
structure LinkCfg where
  n : BitVec 6
  div : BitVec 7
  deriving DecidableEq, Repr

/-- How far the current frame has come: the last of its events that has passed (R1, R3). `placed` says that
the frame's command has been placed in the command field; `ended` also stands while no frame is sent. -/
inductive FramePos where
  | started
  | compared
  | placed
  | sent
  | answered
  | ended
  deriving DecidableEq, Repr

/-- The state of the Frame Engine (chapter 2). -/
structure FrameEngine where
  /-- the link state (R23) -/
  link : LinkState
  /-- LINK_CFG (R22) -/
  cfg : LinkCfg
  /-- n and DIV as taken at LINK_START, in use for the session (R20, R21, R25) -/
  session : LinkCfg
  /-- the frame number (R23) -/
  frameNo : FrameNo
  /-- the run of consecutive contention frames (R31) -/
  contentionRun : Nat
  /-- the 16-bit contention counter (R31) -/
  contentionCount : BitVec 16
  /-- sync frames that have ended in this session (R26) -/
  syncCount : Nat
  /-- quiet frames that have ended in this drain (R29) -/
  quietCount : Nat
  /-- the drain condition has held once in this drain (R29) -/
  drainHeld : Bool
  /-- the drain was entered from SYNCING and serves no payload (R27, R28) -/
  drainFromSync : Bool
  /-- how far the current frame has come (R1) -/
  pos : FramePos
  deriving DecidableEq, Repr

/-! ### Control Exchange -/

/-- The four sources of link commands (R36). -/
inductive Source where
  | commit
  | survey
  | request
  | keepalive
  deriving DecidableEq, Repr

/-- The stage of the command in progress (R36). -/
inductive Stage where
  | resyncPing
  | command
  deriving DecidableEq, Repr

/-- The target of a link command (R6). -/
inductive Target where
  | unbound
  | node (a : NodeAddr)
  | broadcast
  deriving DecidableEq, Repr

/-- A link command with its parameter as the source hands it (R9, R36). IDLE is no command of a source, and
the parameters of PING (the frame number) and SWITCH (the switch frame) are those of the frame of sending. -/
inductive LinkCommand where
  | identify
  | assign (a : NodeAddr)
  | ping
  | read (reg : BitVec 8)
  | write (reg : BitVec 8) (data : BitVec 16)
  | slotSet (port : Fin 8) (dir : Dir) (width : Width) (start : BitVec 11)
  | slotClear (port : Fin 8) (dir : Dir)
  | switch
  | cancel
  | park
  | resume
  | unbind
  deriving DecidableEq, Repr

/-- The in-flight command record (R36). -/
structure InFlight where
  source : Source
  target : Target
  cmd : LinkCommand
  stage : Stage
  attempt : Nat
  waits : Nat
  deriving DecidableEq, Repr

/-- XCHG_CFG (R54), at the widths of its word. -/
structure XchgCfg where
  retry : BitVec 3
  wait : BitVec 8
  loss : BitVec 4
  interval : BitVec 12
  deriving DecidableEq, Repr

/-- The state of the Control Exchange (chapter 3). The holder of the field is the source of the command in
progress. -/
structure Exchange where
  /-- the command in progress, if there is one (R36) -/
  inFlight : Option InFlight
  /-- the 48 bits placed in the command field of the current frame, first bit most significant (R4) -/
  field : Option (BitVec 48)
  /-- the keepalive scan position, the address last pinged, 0 for none (R51) -/
  scan : Nat
  /-- the 16-bit garble counter (R44) -/
  garble : BitVec 16
  /-- XCHG_CFG (R54) -/
  cfg : XchgCfg
  deriving DecidableEq, Repr

/-! ### Node Directory -/

/-- The state of a directory entry (R56). -/
inductive EntryState where
  | free
  | bound
  | ready
  | parked
  | lost
  deriving DecidableEq, Repr

/-- Capability A and capability B, present together or absent together (R18, R56). -/
structure Caps where
  a : BitVec 16
  b : BitVec 16
  deriving DecidableEq, Repr

/-- One directory entry (R56). Its address is its position. -/
structure Entry where
  state : EntryState
  identity : Option Identity
  caps : Option Caps
  seq : Bool
  resync : Bool
  miss : Nat
  lastHeard : FrameNo
  deriving DecidableEq, Repr

/-- The values of a FREE entry (R57). -/
def Entry.freeEntry : Entry :=
  { state := .free, identity := none, caps := none, seq := false, resync := false, miss := 0, lastHeard := 0 }

/-- The fourteen entries, address 1 first (R56). -/
abbrev Directory := Vector Entry 14

/-! ### Survey Engine -/

/-- The survey state (R68). -/
inductive SurveyState where
  | idle
  | seeking
  | elected
  | binding
  | finished
  deriving DecidableEq, Repr

/-- The outcome in the survey result record (R68). -/
inductive SurveyOutcome where
  | none
  | running
  | complete
  | directoryFull
  | electionFailed
  | stopped
  deriving DecidableEq, Repr

/-- The survey result record (R68). The three counts are 8 bits wide and saturate. -/
structure SurveyResult where
  outcome : SurveyOutcome
  joined : BitVec 8
  rejoined : BitVec 8
  failed : BitVec 8
  electionFailures : Nat
  deriving DecidableEq, Repr

/-- The binding record (R68). -/
structure Binding where
  identity : Identity
  target : NodeAddr
  rejoin : Bool
  capA : Option (BitVec 16)
  deriving DecidableEq, Repr

/-- The state of the Survey Engine (R68). -/
structure Survey where
  state : SurveyState
  result : SurveyResult
  binding : Option Binding
  deriving DecidableEq, Repr

/-! ### Slot Map -/

/-- A slot record without its slot number, which is its key in the map (R78). -/
structure SlotRecord where
  owner : NodeAddr
  port : Fin 8
  dir : Dir
  width : Width
  start : BitVec 11
  stream : Fin 8
  lane : Fin 8
  deriving DecidableEq, Repr

/-- A set of slot records keyed by slot number (R79). -/
abbrev SlotTable := Vector (Option SlotRecord) 32

/-- The table with no record. -/
def SlotTable.empty : SlotTable := Vector.replicate 32 none

/-- The state of the Slot Map (R79, R82). -/
structure SlotMap where
  active : SlotTable
  generation : BitVec 16
  deriving DecidableEq, Repr

/-! ### Change List -/

/-- A change record (R85). The width of an ADD stands for its width code 0 to 4. -/
inductive Change where
  | add (slot : Fin 32) (rec : SlotRecord)
  | drop (slot : Fin 32)
  | move (slot : Fin 32) (start : BitVec 11)
  deriving DecidableEq, Repr

/-- The staging words and the change list, oldest first (R85, R86). -/
structure ChangeList where
  stage0 : Word
  stage1 : Word
  list : List Change
  deriving DecidableEq, Repr

/-! ### Commit Engine -/

/-- The commit phase (R97). -/
inductive Phase where
  | idle
  | pending
  | staging
  | switching
  | cancelling
  deriving DecidableEq, Repr

/-- The mode of a COMMIT write (R98). -/
inductive CommitMode where
  | check
  | apply
  deriving DecidableEq, Repr

/-- The outcome of a commit (R106). -/
inductive CommitOutcome where
  | none
  | checked
  | applied
  | unchanged
  | refused
  | aborted
  deriving DecidableEq, Repr

/-- The reason of a refusal or the cause of an abort (R106). -/
inductive Reason where
  | empty
  | slotNumber
  | range
  | overlap
  | owner
  | capability
  | portClash
  | streamMismatch
  | lane
  | capacity
  | linkNotUp
  | nodeRefused
  | noAnswer
  | timeout
  | linkStop
  deriving DecidableEq, Repr

/-- The commit result record, each optional field present or absent (R106). Its phase field is the phase of
the engine. -/
structure CommitResult where
  mode : Option CommitMode
  outcome : CommitOutcome
  reason : Option Reason
  changeIndex : Option Nat
  slot : Option (Fin 32)
  node : Option NodeAddr
  acked : Option Nat
  switchFrame : Option FrameNo
  generation : Option (BitVec 16)
  deriving DecidableEq, Repr

/-- The record after a device reset (R97): outcome NONE, every other field absent. -/
def CommitResult.blank : CommitResult :=
  { mode := none, outcome := .none, reason := none, changeIndex := none, slot := none, node := none,
    acked := none, switchFrame := none, generation := none }

/-- What a staging command does with its owner's port (R100). -/
inductive StagingOp where
  | set (width : Width) (start : BitVec 11)
  | clear
  deriving DecidableEq, Repr

/-- A staging command with the slot number that gave rise to it (R100). -/
structure StagingCmd where
  slot : Fin 32
  target : NodeAddr
  port : Fin 8
  dir : Dir
  op : StagingOp
  deriving DecidableEq, Repr

/-- The state of the Commit Engine (R97). An absent staging list is the empty list. -/
structure Commit where
  phase : Phase
  pending : Option SlotTable
  staging : List StagingCmd
  acked : Nat
  copies : Nat
  switchFrame : Option FrameNo
  result : CommitResult
  deriving DecidableEq, Repr

/-! ### Stream Unit, Data Ports and DMA -/

/-- The state of a stream (R112). -/
inductive StreamState where
  | disabled
  | priming
  | running
  deriving DecidableEq, Repr

/-- The fill mode of a playback stream (R112, R125). -/
inductive FillMode where
  | zero
  | hold
  deriving DecidableEq, Repr

/-- One stream context (R112) with the two pieces of data-port state of its stream (R136, R139). -/
structure Stream where
  dir : Dir
  width : Width
  capacity : Nat
  packing : Bool
  signExt : Bool
  fillMode : FillMode
  service : BitVec 10
  burst : BitVec 10
  startLevel : BitVec 10
  dma : Bool
  state : StreamState
  queue : List Sample
  live : List (Fin 32)
  hold : Vector Sample 8
  xrun : Bool
  counter : BitVec 32
  overruns : BitVec 16
  underruns : BitVec 16
  /-- enabled without a break since before the start of the current frame (R121) -/
  sinceStart : Bool
  /-- the half flag (R136) -/
  half : Bool
  /-- the level of DRQ[n] as last judged (R139) -/
  drq : Bool
  deriving DecidableEq, Repr

/-- A stream context after a device reset (R112, R136, R139). -/
def Stream.fresh : Stream :=
  { dir := .capture, width := .w16, capacity := 0, packing := false, signExt := false, fillMode := .zero,
    service := 0, burst := 0, startLevel := 0, dma := false, state := .disabled, queue := [], live := [],
    hold := Vector.replicate 8 0, xrun := false, counter := 0, overruns := 0, underruns := 0,
    sinceStart := false, half := false, drq := false }

/-- One playback slot the hub drives in the current frame, fixed at its start (R19). -/
structure Drive where
  slot : Fin 32
  start : BitVec 11
  width : Width
  value : Sample
  deriving DecidableEq, Repr

/-- The eight contexts, and the playback slots of the current frame with the values they carry (R19, R112). -/
structure StreamUnit where
  streams : Vector Stream 8
  drives : List Drive
  deriving DecidableEq, Repr

/-! ### Request Queue -/

/-- The kind of a request with the fields present for it (R141). -/
inductive ReqOp where
  | nodeRead (reg : BitVec 8)
  | nodeWrite (reg : BitVec 8) (data : BitVec 16)
  | park
  | resume
  | release
  | ping
  deriving DecidableEq, Repr

/-- A request record (R141). -/
structure Request where
  op : ReqOp
  addr : NodeAddr
  tag : BitVec 8
  deriving DecidableEq, Repr

/-- The kind of a request as its completion carries it (R148). -/
inductive ReqKind where
  | nodeRead
  | nodeWrite
  | park
  | resume
  | release
  | ping
  deriving DecidableEq, Repr

/-- The outcome of a completion (R148). -/
inductive CplOutcome where
  | done
  | refused
  | noAnswer
  | timeout
  | notBound
  | isProtected
  | unsupported
  | linkDown
  deriving DecidableEq, Repr

/-- A completion record (R148). -/
structure Completion where
  tag : BitVec 8
  kind : ReqKind
  addr : NodeAddr
  outcome : CplOutcome
  data : Option (BitVec 16)
  attempts : Nat
  deriving DecidableEq, Repr

/-- The cause of a discard (R144). -/
inductive DiscardCause where
  | none
  | flush
  | linkStop
  deriving DecidableEq, Repr

/-- The discard field (R144). -/
structure Discard where
  count : Nat
  cause : DiscardCause
  deriving DecidableEq, Repr

/-- The state of the Request Queue (chapter 9). The head is in flight exactly while the command in progress
has source REQUEST (R143). -/
structure RequestQueue where
  stage0 : Word
  stage1 : Word
  queue : List Request
  completions : List Completion
  discard : Discard
  deriving DecidableEq, Repr

/-! ### Event Unit -/

/-- The cause of an access fault (R156). -/
inductive FaultCause where
  | unmapped
  | readOnly
  | stateRefused
  | stateLocked
  | poolExceeded
  | enableRefused
  | listFull
  | listBusy
  | fieldInvalid
  | queueFull
  | emptyPop
  | dry
  | spill
  | wrongDirection
  | streamDisabled
  deriving DecidableEq, Repr

/-- The detail of a refused enable (R117). -/
inductive EnableDetail where
  | noCapacity
  | capacityShort
  | mismatch
  deriving DecidableEq, Repr

/-- A valid access fault record (R155). -/
structure FaultRecord where
  cause : FaultCause
  offset : WinOffset
  stream : Option (Fin 8)
  detail : Option EnableDetail
  deriving DecidableEq, Repr

/-- The kind of a gap record (R128). -/
inductive GapKind where
  | start
  | overrun
  | underrun
  | lanesChanged
  deriving DecidableEq, Repr

/-- A gap record (R158). -/
structure GapRecord where
  stream : Fin 8
  kind : GapKind
  frame : FrameNo
  index : BitVec 32
  lanes : Option Nat
  deriving DecidableEq, Repr

/-- The sticky device events (chapter 10.1). The level events CPL_READY and GAP_READY are computed. -/
inductive StickyEvent where
  | linkUp
  | linkDown
  | linkFault
  | surveyDone
  | nodeJoined
  | nodeRejoined
  | nodeLost
  | commitDone
  | gapOverflow
  | accessFault
  deriving DecidableEq, Repr

/-- The state of the Event Unit (chapter 10). `sticky` holds the sticky device events at their positions in
EVT_RAW and `xrun` the XRUN events by stream; the level events are computed from the state they report. -/
structure EventUnit where
  sticky : BitVec 12
  xrun : BitVec 8
  enable : BitVec 12
  senable : BitVec 16
  fault : Option FaultRecord
  faultCount : BitVec 8
  gaps : List GapRecord
  deriving DecidableEq, Repr

/-! ### The whole part -/

/-- Why a command stops the block: no command does. The spec gives every command an effect in every state
(often that nothing changes, or that the access fault record takes a cause), so the type is empty (safe). -/
inductive Fault where
  deriving DecidableEq, Repr

/-- Why a command is refused. -/
inductive Refusal where
  /-- Raised by an arm of exec for a command that has no meaning yet; no arm raises it (safe). -/
  | notModelled (mnemonic : String)
  deriving DecidableEq, Repr

/-- The state of the DF3208. -/
structure State where
  /-- the level of the RESET_N pin: true while high (R163) -/
  resetN : Bool
  /-- REFCLK runs (R163) -/
  refclk : Bool
  /-- Frame Engine -/
  fe : FrameEngine
  /-- Control Exchange -/
  cx : Exchange
  /-- Node Directory -/
  nd : Directory
  /-- Survey Engine -/
  sv : Survey
  /-- Slot Map -/
  sm : SlotMap
  /-- Change List -/
  cl : ChangeList
  /-- Commit Engine -/
  ce : Commit
  /-- Stream Unit, with the Data Ports -/
  su : StreamUnit
  /-- Request Queue -/
  rq : RequestQueue
  /-- Event Unit -/
  eu : EventUnit
  /-- the word the last host read by a command returned (the model's own field) -/
  readData : Word
  /-- the commands that are waiting, first in first out -/
  pending : List Instr
  deriving DecidableEq, Repr

/-- What a command answers. -/
abbrev Result := Host.Outcome State Fault Refusal

/-- The Frame Engine after a device reset (R35). -/
def FrameEngine.fresh : FrameEngine :=
  { link := .down, cfg := { n := 0, div := 1 }, session := { n := 0, div := 1 }, frameNo := 0,
    contentionRun := 0, contentionCount := 0, syncCount := 0, quietCount := 0, drainHeld := false,
    drainFromSync := false, pos := .ended }

/-- The Control Exchange after a device reset (R55). -/
def Exchange.fresh : Exchange :=
  { inFlight := none, field := none, scan := 0, garble := 0,
    cfg := { retry := 2, wait := 16, loss := 4, interval := 0 } }

/-- The directory with every entry FREE (R57). -/
def Directory.allFree : Directory := Vector.replicate 14 Entry.freeEntry

/-- The Survey Engine after a device reset (R68, R77). -/
def Survey.fresh : Survey :=
  { state := .idle,
    result := { outcome := .none, joined := 0, rejoined := 0, failed := 0, electionFailures := 0 },
    binding := none }

/-- The Commit Engine after a device reset (R97). -/
def Commit.fresh : Commit :=
  { phase := .idle, pending := none, staging := [], acked := 0, copies := 0, switchFrame := none,
    result := CommitResult.blank }

/-- The Stream Unit after a device reset (R112, R130). -/
def StreamUnit.fresh : StreamUnit :=
  { streams := Vector.replicate 8 Stream.fresh, drives := [] }

/-- The Request Queue after a device reset (R141, R143, R144, R149). -/
def RequestQueue.fresh : RequestQueue :=
  { stage0 := 0, stage1 := 0, queue := [], completions := [], discard := { count := 0, cause := .none } }

/-- The Event Unit after a device reset (R151 to R159). -/
def EventUnit.fresh : EventUnit :=
  { sticky := 0, xrun := 0, enable := 0, senable := 0, fault := none, faultCount := 0, gaps := [] }

/-- The part right after a device reset, RESET_N high and REFCLK running, with no command waiting. -/
def State.reset : State :=
  { resetN := true, refclk := true, fe := FrameEngine.fresh, cx := Exchange.fresh, nd := Directory.allFree,
    sv := Survey.fresh, sm := { active := SlotTable.empty, generation := 0 },
    cl := { stage0 := 0, stage1 := 0, list := [] }, ce := Commit.fresh, su := StreamUnit.fresh,
    rq := RequestQueue.fresh, eu := EventUnit.fresh, readData := 0, pending := [] }

end Sys2Proof.Machine
end

