-- ==== Sys2Proof/Machine/Bits.lean ====
section
/-! DEFINITION. Bit fields of words, saturating counts, the check of R5, and tables with one place changed. -/
namespace Sys2Proof.Machine

/-- One more, stopping at the largest value (R31, R44, R68, R122, R124, R155). -/
def satInc {w : Nat} (x : BitVec w) : BitVec w := if x = BitVec.allOnes w then x else x + 1

/-- The `len` bits of `w` from bit `lo` up. -/
def bitsAt (w : Word) (lo len : Nat) : BitVec len := w.extractLsb' lo len

/-- The word whose bits from `lo` up are `x`, every other bit 0 (R162). -/
def place (lo : Nat) {k : Nat} (x : BitVec k) : Word := x.setWidth 32 <<< lo

/-- The word whose `len` bits from `lo` up hold the number `n`. -/
def placeNat (lo len n : Nat) : Word := place lo (BitVec.ofNat len n)

/-- The word whose bit `i` is `b`. -/
def placeBool (i : Nat) (b : Bool) : Word := place i (BitVec.ofBool b)

/-- One bit taken into the check register (R5): shift left, then XOR 07h where the feedback is 1. -/
def crcStep (c : BitVec 8) (b : Bool) : BitVec 8 :=
  if (c.msb ^^ b) = true then (c <<< 1) ^^^ 0x07#8 else c <<< 1

/-- The check over the bits of `x`, most significant first (R5). -/
def crc8 {k : Nat} (x : BitVec k) : BitVec 8 :=
  (List.range k).foldl (fun c i => crcStep c (x.getMsbD i)) 0

/-- The table with place `i` set to `x`. -/
def upd {α : Type} {n : Nat} (v : Vector α n) (i : Fin n) (x : α) : Vector α n := v.set i x

/-- The table with `f` applied at every place. -/
def mapTable {α β : Type} {n : Nat} (f : α → β) (v : Vector α n) : Vector β n :=
  ⟨⟨v.toList.map f⟩, by simp⟩

/-- The slot numbers, ascending (R79). -/
def slotNumbers : List (Fin 32) := List.finRange 32

/-- The directory addresses, ascending (R56). -/
def addresses : List NodeAddr := List.finRange 14

/-- The stream numbers, ascending (R112). -/
def streamNumbers : List (Fin 8) := List.finRange 8

/-- The lane numbers, ascending (R78). -/
def laneNumbers : List (Fin 8) := List.finRange 8

/-- The 4-bit link address of a directory entry, 1 to 14 (R6). -/
def addressBits (a : NodeAddr) : BitVec 4 := BitVec.ofNat 4 (a.val + 1)

/-- The directory address a 4-bit field names: 1 to 14, none for 0 and 15 (R6, R87, R142). -/
def addressOf (x : BitVec 4) : Option NodeAddr :=
  if h : 1 ≤ x.toNat ∧ x.toNat ≤ 14 then some ⟨x.toNat - 1, by omega⟩ else none

/-- The unsigned number the bits `bs` spell, first bit most significant (R19). -/
def numberOf (bs : List Bool) : Sample := bs.foldl (fun acc b => (acc <<< 1) ||| (BitVec.ofBool b).setWidth 32) 0

end Sys2Proof.Machine
end

