-- ==== Sys2Proof/Machine/Layout.lean ====
section
/-! DEFINITION. The codes of chapter 11 for the names the words carry, and the frame length. -/
namespace Sys2Proof.Machine

/-- L = 256 + 32 × n bit periods (R21). -/
def LinkCfg.frameLength (c : LinkCfg) : Nat := 256 + 32 * c.n.toNat

/-- REFCLK periods in one bit period: 2 × DIV (R20). -/
def LinkCfg.refclkPerBit (c : LinkCfg) : Nat := 2 * c.div.toNat

/-- Bits per sample (R9, R78). -/
def Width.bits : Width → Nat
  | .w8 => 8
  | .w16 => 16
  | .w20 => 20
  | .w24 => 24
  | .w32 => 32

/-- The width code (R9). -/
def Width.code : Width → BitVec 3
  | .w8 => 0
  | .w16 => 1
  | .w20 => 2
  | .w24 => 3
  | .w32 => 4

/-- The width a width code stands for; codes 5 to 7 are invalid (R9). -/
def Width.ofCode (c : BitVec 3) : Option Width :=
  if c = 0 then some .w8 else if c = 1 then some .w16 else if c = 2 then some .w20
  else if c = 3 then some .w24 else if c = 4 then some .w32 else none

/-- Direction bit: 0 CAPTURE, 1 PLAYBACK (R9). -/
def Dir.bit : Dir → Bool
  | .capture => false
  | .playback => true

/-- The direction a direction bit stands for (R9). -/
def Dir.ofBit (b : Bool) : Dir := if b = true then .playback else .capture

/-- Link state field of STATUS (chapter 11.3). -/
def LinkState.code : LinkState → BitVec 3
  | .down => 0
  | .syncing => 1
  | .up => 2
  | .draining => 3
  | .fault => 4

/-- Commit phase field of STATUS (chapter 11.3). -/
def Phase.code : Phase → BitVec 3
  | .idle => 0
  | .pending => 1
  | .staging => 2
  | .switching => 3
  | .cancelling => 4

/-- Survey state field of STATUS (chapter 11.3). -/
def SurveyState.code : SurveyState → BitVec 3
  | .idle => 0
  | .seeking => 1
  | .elected => 2
  | .binding => 3
  | .finished => 4

/-- Outcome field of SURVEY_RESULT (chapter 11.3). -/
def SurveyOutcome.code : SurveyOutcome → BitVec 3
  | .none => 0
  | .running => 1
  | .complete => 2
  | .directoryFull => 3
  | .electionFailed => 4
  | .stopped => 5

/-- State field of a DIRECTORY word 0 (chapter 11.3). -/
def EntryState.code : EntryState → BitVec 3
  | .free => 0
  | .bound => 1
  | .ready => 2
  | .parked => 3
  | .lost => 4

/-- Mode field of COMMIT_RESULT0 (chapter 11.4): 0 absent. -/
def CommitMode.code : Option CommitMode → BitVec 2
  | none => 0
  | some .check => 1
  | some .apply => 2

/-- Outcome field of COMMIT_RESULT0 (chapter 11.4). -/
def CommitOutcome.code : CommitOutcome → BitVec 3
  | .none => 0
  | .checked => 1
  | .applied => 2
  | .unchanged => 3
  | .refused => 4
  | .aborted => 5

/-- Reason or cause field of COMMIT_RESULT0 (chapter 11.4). -/
def Reason.code : Reason → BitVec 4
  | .empty => 1
  | .slotNumber => 2
  | .range => 3
  | .overlap => 4
  | .owner => 5
  | .capability => 6
  | .portClash => 7
  | .streamMismatch => 8
  | .lane => 9
  | .capacity => 10
  | .linkNotUp => 11
  | .nodeRefused => 12
  | .noAnswer => 13
  | .timeout => 14
  | .linkStop => 15

/-- Kind field of a completion (chapter 11.5). -/
def ReqKind.code : ReqKind → BitVec 3
  | .nodeRead => 0
  | .nodeWrite => 1
  | .park => 2
  | .resume => 3
  | .release => 4
  | .ping => 5

/-- The kind of a request (R141, R148). -/
def ReqOp.kind : ReqOp → ReqKind
  | .nodeRead _ => .nodeRead
  | .nodeWrite _ _ => .nodeWrite
  | .park => .park
  | .resume => .resume
  | .release => .release
  | .ping => .ping

/-- Outcome field of a completion (chapter 11.5). -/
def CplOutcome.code : CplOutcome → BitVec 3
  | .done => 0
  | .refused => 1
  | .noAnswer => 2
  | .timeout => 3
  | .notBound => 4
  | .isProtected => 5
  | .unsupported => 6
  | .linkDown => 7

/-- Discard cause field of REQ_STATUS (chapter 11.5). -/
def DiscardCause.code : DiscardCause → BitVec 2
  | .none => 0
  | .flush => 1
  | .linkStop => 2

/-- Cause field of FAULT_RECORD (chapter 11.5). -/
def FaultCause.code : FaultCause → BitVec 4
  | .unmapped => 1
  | .readOnly => 2
  | .stateRefused => 3
  | .stateLocked => 4
  | .poolExceeded => 5
  | .enableRefused => 6
  | .listFull => 7
  | .listBusy => 8
  | .fieldInvalid => 9
  | .queueFull => 10
  | .emptyPop => 11
  | .dry => 12
  | .spill => 13
  | .wrongDirection => 14
  | .streamDisabled => 15

/-- Detail field of FAULT_RECORD (chapter 11.5): 0 absent. -/
def EnableDetail.code : Option EnableDetail → BitVec 2
  | none => 0
  | some .noCapacity => 1
  | some .capacityShort => 2
  | some .mismatch => 3

/-- Kind field of GAP_HEAD0 (chapter 11.5). -/
def GapKind.code : GapKind → BitVec 2
  | .start => 0
  | .overrun => 1
  | .underrun => 2
  | .lanesChanged => 3

/-- State field of a stream's STATUS (chapter 11.5). -/
def StreamState.code : StreamState → BitVec 2
  | .disabled => 0
  | .priming => 1
  | .running => 2

/-- Fill mode bit of CFG: 0 ZERO, 1 HOLD (chapter 11.5). -/
def FillMode.bit : FillMode → Bool
  | .zero => false
  | .hold => true

/-- The position of a sticky device event in EVT_RAW (chapter 11.5). -/
def StickyEvent.bit : StickyEvent → Nat
  | .linkUp => 0
  | .linkDown => 1
  | .linkFault => 2
  | .surveyDone => 3
  | .nodeJoined => 4
  | .nodeRejoined => 5
  | .nodeLost => 6
  | .commitDone => 7
  | .gapOverflow => 10
  | .accessFault => 11

/-- The order of a frame's events (R1). -/
def FramePos.rank : FramePos → Nat
  | .started => 0
  | .compared => 1
  | .placed => 2
  | .sent => 3
  | .answered => 4
  | .ended => 5

/-- The code of a link command (R9). -/
def LinkCommand.code : LinkCommand → BitVec 4
  | .identify => 1
  | .assign _ => 2
  | .ping => 3
  | .read _ => 4
  | .write _ _ => 5
  | .slotSet _ _ _ _ => 6
  | .slotClear _ _ => 7
  | .switch => 8
  | .cancel => 9
  | .park => 10
  | .resume => 11
  | .unbind => 12

/-- The 28 parameter bits of a link command sent in frame `f`, with switch frame `t` (R10, chapter 11.1). -/
def LinkCommand.param (f t : FrameNo) : LinkCommand → BitVec 28
  | .assign a => (addressBits a).setWidth 28
  | .ping => (f.setWidth 8).setWidth 28
  | .read r => r.setWidth 28
  | .write r d => (r.setWidth 28 <<< 16) ||| d.setWidth 28
  | .slotSet p d w st =>
      ((BitVec.ofNat 28 p.val) <<< 15) ||| ((BitVec.ofBool d.bit).setWidth 28 <<< 14) |||
        (w.code.setWidth 28 <<< 11) ||| st.setWidth 28
  | .slotClear p d => ((BitVec.ofNat 28 p.val) <<< 15) ||| ((BitVec.ofBool d.bit).setWidth 28 <<< 14)
  | .switch => t.setWidth 28
  | .identify => 0
  | .cancel => 0
  | .park => 0
  | .resume => 0
  | .unbind => 0

/-- The four address bits of a target (R6). -/
def Target.bits : Target → BitVec 4
  | .unbound => 0
  | .node a => addressBits a
  | .broadcast => 15

end Sys2Proof.Machine
end

