-- ==== Sys2Proof/Machine/Registers.lean ====
section
/-! DEFINITION. The register window: which register a word of the window is, and its offset (chapter 11.2). -/
namespace Sys2Proof.Machine

/-- The words of the register window that name a register (chapter 11.2). `second` says word 1 of a view. -/
inductive Reg where
  | id
  | control
  | status
  | linkCfg
  | xchgCfg
  | frameNumber
  | linkErrors
  | mapGen
  | survey
  | surveyResult
  | commit
  | commitResult0
  | commitResult1
  | evtRaw
  | evtEnable
  | evtPending
  | evtClear
  | sevtRaw
  | sevtEnable
  | sevtPending
  | sevtClear
  | faultRecord
  | faultCount
  | gapHead0
  | gapHead1
  | gapPop
  | reqStage0
  | reqStage1
  | reqSubmit
  | reqStatusFlush
  | cplHead0
  | cplHead1
  | cplPop
  | chgStage0
  | chgStage1
  | chgAppend
  | chgClear
  | chgStatus
  | directory (a : NodeAddr) (second : Bool)
  | slotView (s : Fin 32) (second : Bool)
  | changeView (i : Fin 16) (second : Bool)
  | streamCfg (n : Fin 8)
  | streamLevels (n : Fin 8)
  | streamCtrl (n : Fin 8)
  | streamStatus (n : Fin 8)
  | streamCounts (n : Fin 8)
  | streamSamples (n : Fin 8)
  | dataPort (n : Fin 8)
  deriving DecidableEq, Repr

/-- The place of a word inside a two-word view. -/
def secondOffset (b : Bool) : Nat := if b = true then 4 else 0

/-- The window offset of a register, as a number (chapter 11.2). -/
def Reg.offsetNat : Reg → Nat
  | .id => 0x000
  | .control => 0x004
  | .status => 0x008
  | .linkCfg => 0x00C
  | .xchgCfg => 0x010
  | .frameNumber => 0x014
  | .linkErrors => 0x018
  | .mapGen => 0x01C
  | .survey => 0x020
  | .surveyResult => 0x024
  | .commit => 0x030
  | .commitResult0 => 0x034
  | .commitResult1 => 0x038
  | .evtRaw => 0x040
  | .evtEnable => 0x044
  | .evtPending => 0x048
  | .evtClear => 0x04C
  | .sevtRaw => 0x050
  | .sevtEnable => 0x054
  | .sevtPending => 0x058
  | .sevtClear => 0x05C
  | .faultRecord => 0x060
  | .faultCount => 0x064
  | .gapHead0 => 0x070
  | .gapHead1 => 0x074
  | .gapPop => 0x078
  | .reqStage0 => 0x080
  | .reqStage1 => 0x084
  | .reqSubmit => 0x088
  | .reqStatusFlush => 0x08C
  | .cplHead0 => 0x090
  | .cplHead1 => 0x094
  | .cplPop => 0x098
  | .chgStage0 => 0x0A0
  | .chgStage1 => 0x0A4
  | .chgAppend => 0x0A8
  | .chgClear => 0x0AC
  | .chgStatus => 0x0B0
  | .directory a b => 0x100 + 8 * a.val + secondOffset b
  | .slotView s b => 0x200 + 8 * s.val + secondOffset b
  | .changeView i b => 0x300 + 8 * i.val + secondOffset b
  | .streamCfg n => 0x400 + 0x20 * n.val
  | .streamLevels n => 0x404 + 0x20 * n.val
  | .streamCtrl n => 0x408 + 0x20 * n.val
  | .streamStatus n => 0x40C + 0x20 * n.val
  | .streamCounts n => 0x410 + 0x20 * n.val
  | .streamSamples n => 0x414 + 0x20 * n.val
  | .dataPort n => 0x800 + 4 * n.val

/-- The window offset of a register (chapter 11.2). -/
def Reg.offset (r : Reg) : WinOffset := BitVec.ofNat 12 r.offsetNat

/-- The offset of the 32-bit word that holds the offset presented: its two low bits 0 (R160). -/
def wordOffset (o : WinOffset) : WinOffset := o &&& 0xFFC#12

/-- The register of a single-word offset below 100h (chapter 11.2). -/
def lowReg (o : Nat) : Option Reg :=
  [Reg.id, .control, .status, .linkCfg, .xchgCfg, .frameNumber, .linkErrors, .mapGen, .survey, .surveyResult,
    .commit, .commitResult0, .commitResult1, .evtRaw, .evtEnable, .evtPending, .evtClear, .sevtRaw, .sevtEnable,
    .sevtPending, .sevtClear, .faultRecord, .faultCount, .gapHead0, .gapHead1, .gapPop, .reqStage0, .reqStage1,
    .reqSubmit, .reqStatusFlush, .cplHead0, .cplHead1, .cplPop, .chgStage0, .chgStage1, .chgAppend, .chgClear,
    .chgStatus].find? fun r => r.offsetNat == o

/-- The register of a word inside a stream block, by its place in the block (chapter 11.2). -/
def streamReg (n : Fin 8) (o : Nat) : Option Reg :=
  if o = 0x00 then some (.streamCfg n) else if o = 0x04 then some (.streamLevels n)
  else if o = 0x08 then some (.streamCtrl n) else if o = 0x0C then some (.streamStatus n)
  else if o = 0x10 then some (.streamCounts n) else if o = 0x14 then some (.streamSamples n) else none

/-- The register at word offset `o`, none where the word is unmapped (chapter 11.2). -/
def regAt (o : Nat) : Option Reg :=
  if o < 0x100 then lowReg o
  else if h : 0x100 ≤ o ∧ o < 0x170 then some (.directory ⟨(o - 0x100) / 8, by omega⟩ ((o - 0x100) % 8 == 4))
  else if h : 0x200 ≤ o ∧ o < 0x300 then some (.slotView ⟨(o - 0x200) / 8, by omega⟩ ((o - 0x200) % 8 == 4))
  else if h : 0x300 ≤ o ∧ o < 0x380 then some (.changeView ⟨(o - 0x300) / 8, by omega⟩ ((o - 0x300) % 8 == 4))
  else if h : 0x400 ≤ o ∧ o < 0x500 then streamReg ⟨(o - 0x400) / 0x20, by omega⟩ ((o - 0x400) % 0x20)
  else if h : 0x800 ≤ o ∧ o < 0x820 then some (.dataPort ⟨(o - 0x800) / 4, by omega⟩)
  else none

/-- The register an access at the offset presented reaches, none where its word is unmapped (R160). -/
def decodeOffset (o : WinOffset) : Option Reg := regAt (wordOffset o).toNat

/-- The stream of an offset that lies in a stream's block or is its data port (R155). -/
def streamOfOffset (o : WinOffset) : Option (Fin 8) :=
  if h : 0x400 ≤ o.toNat ∧ o.toNat < 0x500 then some ⟨(o.toNat - 0x400) / 0x20, by omega⟩
  else if h : 0x800 ≤ o.toNat ∧ o.toNat < 0x820 then some ⟨(o.toNat - 0x800) / 4, by omega⟩
  else none

end Sys2Proof.Machine
end

