-- ==== Sys2Proof/Machine/Operands.lean ====
section
/-! DEFINITION. What the fields of a written word are: every writable layout of chapter 11. -/
namespace Sys2Proof.Machine

/-- The word a write supplies: 0 in every byte it does not carry (R160). -/
def carriedWord (value : Word) (lanes : BitVec 4) : Word :=
  value &&& ((if lanes.getLsbD 0 then 0x000000FF#32 else 0) ||| (if lanes.getLsbD 1 then 0x0000FF00#32 else 0) |||
    (if lanes.getLsbD 2 then 0x00FF0000#32 else 0) ||| (if lanes.getLsbD 3 then 0xFF000000#32 else 0))

/-- The fields of a word written to LINK_CFG: n in 5-0, DIV in 14-8 (chapter 11.3). -/
def linkCfgOf (w : Word) : LinkCfg := { n := bitsAt w 0 6, div := bitsAt w 8 7 }

/-- n from 0 to 56 and DIV from 1 to 64 (R22). -/
def LinkCfg.legal (c : LinkCfg) : Bool :=
  decide (c.n.toNat ≤ 56) && decide (1 ≤ c.div.toNat) && decide (c.div.toNat ≤ 64)

/-- The fields of a word written to XCHG_CFG: retry limit in 2-0, wait limit in 15-8, loss limit in 19-16,
ping interval in 31-20 (chapter 11.3). -/
def xchgCfgOf (w : Word) : XchgCfg :=
  { retry := bitsAt w 0 3, wait := bitsAt w 8 8, loss := bitsAt w 16 4, interval := bitsAt w 20 12 }

/-- A wait limit or a loss limit of 0 is out of range; every other value is in range (R54). -/
def XchgCfg.legal (c : XchgCfg) : Bool := decide (c.wait ≠ 0) && decide (c.loss ≠ 0)

/-- The bits of CHG_STAGE0 that lie in a field (chapter 11.4, R162). -/
def chgStage0Mask : Word := 0x777FF1F3#32

/-- The bits of CHG_STAGE1 that lie in a field (chapter 11.4, R162). -/
def chgStage1Mask : Word := 0x000007FF#32

/-- The bits of REQ_STAGE0 that lie in a field (chapter 11.5, R162). -/
def reqStage0Mask : Word := 0x00FFF7FF#32

/-- The bits of REQ_STAGE1 that lie in a field (chapter 11.5, R162). -/
def reqStage1Mask : Word := 0x0000FFFF#32

/-- A slot number field. -/
def slotOf (x : BitVec 5) : Fin 32 := ⟨x.toNat, x.isLt⟩

/-- A three-bit port, stream or lane field. -/
def fin8Of (x : BitVec 3) : Fin 8 := ⟨x.toNat, x.isLt⟩

/-- A start field is at least 128; its eleven bits keep it at most 2047 (R87). -/
def startLegal (x : BitVec 11) : Bool := decide (128 ≤ x.toNat)

/-- The change record the staging words spell, or none where a field is invalid for the kind (R85 to R87,
layout in chapter 11.4). -/
def stagedChange (stage0 stage1 : Word) : Option Change :=
  let kind := bitsAt stage0 0 2
  let slot := slotOf (bitsAt stage0 4 5)
  let start := bitsAt stage1 0 11
  if kind = 0 then
    match Width.ofCode (bitsAt stage0 20 3), addressOf (bitsAt stage0 12 4) with
    | some width, some owner =>
      if startLegal start = true then
        some (.add slot
          { owner := owner, port := fin8Of (bitsAt stage0 16 3), dir := Dir.ofBit (stage0.getLsbD 19),
            width := width, start := start, stream := fin8Of (bitsAt stage0 24 3),
            lane := fin8Of (bitsAt stage0 28 3) })
      else none
    | _, _ => none
  else if kind = 1 then some (.drop slot)
  else if kind = 2 then if startLegal start = true then some (.move slot start) else none
  else none

/-- The kind and the fields present for it that the request staging words spell; none for a kind field of
6 or 7 (R141, chapter 11.5). -/
def stagedOp (stage0 stage1 : Word) : Option ReqOp :=
  let kind := bitsAt stage0 8 3
  if kind = 0 then some (.nodeRead (bitsAt stage0 16 8))
  else if kind = 1 then some (.nodeWrite (bitsAt stage0 16 8) (bitsAt stage1 0 16))
  else if kind = 2 then some .park
  else if kind = 3 then some .resume
  else if kind = 4 then some .release
  else if kind = 5 then some .ping
  else none

/-- The request record the staging words spell, or none where the kind names none or the address is 0 or 15
(R142). -/
def stagedRequest (stage0 stage1 : Word) : Option Request :=
  match stagedOp stage0 stage1, addressOf (bitsAt stage0 12 4) with
  | some op, some addr => some { op := op, addr := addr, tag := bitsAt stage0 0 8 }
  | _, _ => none

/-- The fields of a stream's CFG word (chapter 11.5). -/
structure StreamCfgFields where
  dir : Dir
  width : BitVec 3
  packing : Bool
  signExt : Bool
  fillMode : FillMode
  capacity : Nat
  deriving DecidableEq, Repr

/-- The fields of a word written to a stream's CFG (chapter 11.5). -/
def streamCfgOf (w : Word) : StreamCfgFields :=
  { dir := Dir.ofBit (w.getLsbD 0), width := bitsAt w 1 3, packing := w.getLsbD 4, signExt := w.getLsbD 5,
    fillMode := if w.getLsbD 6 = true then .hold else .zero, capacity := (bitsAt w 16 10).toNat }

/-- The width of a CFG word whose fields are valid: a width code 0 to 4, a capacity of at most 512 that is a
multiple of 8, and packing only with width 8 or 16 (R113). -/
def StreamCfgFields.validWidth (c : StreamCfgFields) : Option Width :=
  match Width.ofCode c.width with
  | some width =>
    if c.capacity ≤ Config.maxCapacity ∧ c.capacity % 8 = 0 ∧ (c.packing = true → width = .w8 ∨ width = .w16)
    then some width else none
  | none => none

end Sys2Proof.Machine
end

