-- ==== Sys2Proof/Machine/Flags.lean ====
section
/-! DEFINITION. Conditions read off the state: whether the part is held, whether frames are sent, the levels of
a stream, and the events with their pending values and lines. -/
namespace Sys2Proof.Machine

/-- RESET_N is held low or REFCLK is stopped: the part stays at its reset values (R160, R163). -/
def State.held (s : State) : Bool := !s.resetN || !s.refclk

/-- Frames are sent in SYNCING, UP and DRAINING (R1). -/
def FrameEngine.running (fe : FrameEngine) : Bool :=
  match fe.link with
  | .syncing => true
  | .up => true
  | .draining => true
  | .down => false
  | .fault => false

/-- The payload is served in UP and in a drain entered from UP (R28, R130). -/
def FrameEngine.servesPayload (fe : FrameEngine) : Bool :=
  match fe.link with
  | .up => true
  | .draining => !fe.drainFromSync
  | .syncing => false
  | .down => false
  | .fault => false

/-- The event of rank `p` of the current frame is still to come. -/
def FrameEngine.before (fe : FrameEngine) (p : FramePos) : Bool := fe.running && decide (fe.pos.rank < p.rank)

/-- The drain condition of R29: no command in progress and the commit phase IDLE. -/
def State.drainCondition (s : State) : Bool := s.cx.inFlight.isNone && decide (s.ce.phase = .idle)

/-- A survey is running (R68). -/
def SurveyState.isRunning : SurveyState → Bool
  | .seeking => true
  | .elected => true
  | .binding => true
  | .idle => false
  | .finished => false

/-- An owner whose slots the map keeps: READY or PARKED (R80, R93). -/
def EntryState.keepsSlots : EntryState → Bool
  | .ready => true
  | .parked => true
  | .free => false
  | .bound => false
  | .lost => false

/-- The stream is enabled: PRIMING or RUNNING (R112). -/
def Stream.enabled (st : Stream) : Bool :=
  match st.state with
  | .disabled => false
  | .priming => true
  | .running => true

/-- The number of samples the queue holds (R115). -/
def Stream.fill (st : Stream) : Nat := st.queue.length

/-- The entries still open, up to the capacity (R115). -/
def Stream.freeCount (st : Stream) : Nat := st.capacity - st.fill

/-- The effective value of a level: 0, or a value above the capacity, is taken as the capacity (R114). -/
def Stream.effective (st : Stream) (level : BitVec 10) : Nat :=
  if level = 0 ∨ st.capacity < level.toNat then st.capacity else level.toNat

/-- The fill of a capture stream, or the free count of a playback stream, is at least `level` (R127, R139). -/
def Stream.reaches (st : Stream) (level : BitVec 10) : Bool :=
  match st.dir with
  | .capture => decide (st.effective level ≤ st.fill)
  | .playback => decide (st.effective level ≤ st.freeCount)

/-- SERVICE[n] (R127). -/
def Stream.serviceLevel (st : Stream) : Bool := st.enabled && st.reaches st.service

/-- The level of DRQ[n] at a judgement (R139). -/
def Stream.drqLevel (st : Stream) : Bool := st.dma && st.enabled && st.reaches st.burst

/-- The stream with its request line judged again (R139). -/
def Stream.judged (st : Stream) : Stream := { st with drq := st.drqLevel }

/-- The records of a stream in a map (R117, R129). -/
def recordCount (m : SlotTable) (n : Fin 8) : Nat :=
  slotNumbers.countP fun k => match m[k] with
    | some r => r.stream == n
    | none => false

/-- The number of records in a map (R82). -/
def mapCount (m : SlotTable) : Nat := slotNumbers.countP fun k => m[k].isSome

/-- The positions of the sticky device events in EVT_RAW: all but 8 and 9, where the level events stand (R151,
chapter 11.5). -/
def stickyMask : BitVec 12 := 0xCFF#12

/-- EVT_RAW: the sticky events, CPL_READY at bit 8 and GAP_READY at bit 9 (R151, R152, chapter 11.5). -/
def State.evtRaw (s : State) : BitVec 12 :=
  (s.eu.sticky &&& stickyMask) ||| ((BitVec.ofBool (!s.rq.completions.isEmpty)).setWidth 12 <<< 8) |||
    ((BitVec.ofBool (!s.eu.gaps.isEmpty)).setWidth 12 <<< 9)

/-- The eight SERVICE events, stream n at bit n (R127). -/
def State.serviceBits (s : State) : BitVec 8 :=
  streamNumbers.foldl (fun acc n => acc ||| ((BitVec.ofBool s.su.streams[n].serviceLevel).setWidth 8 <<< n.val)) 0

/-- SEVT_RAW: XRUN in 15-8, SERVICE in 7-0 (chapter 11.5). -/
def State.sevtRaw (s : State) : BitVec 16 := s.eu.xrun ++ s.serviceBits

/-- EVT_PENDING: raw value AND enable bit (R153). -/
def State.evtPending (s : State) : BitVec 12 := s.evtRaw &&& s.eu.enable

/-- SEVT_PENDING: raw value AND enable bit (R153). -/
def State.sevtPending (s : State) : BitVec 16 := s.sevtRaw &&& s.eu.senable

/-- The interrupt line (R154). -/
def State.irq (s : State) : Bool := decide (s.evtPending ≠ 0) || decide (s.sevtPending ≠ 0)

/-- The head of the request queue is in flight (R143). -/
def State.headInFlight (s : State) : Bool :=
  match s.cx.inFlight with
  | some r => decide (r.source = .request)
  | none => false

end Sys2Proof.Machine
end

