-- ==== Sys2Proof/Machine/Ops.lean ====
section
/-! DEFINITION. The named operations the meanings share: raising events, recording faults and gaps, directory
and stream updates, the link-down clear with the entries into DOWN and FAULT, and the device reset. -/
namespace Sys2Proof.Machine

/-! ### One block replaced -/

def State.setFe (s : State) (x : FrameEngine) : State := { s with fe := x }
def State.setCx (s : State) (x : Exchange) : State := { s with cx := x }
def State.setNd (s : State) (x : Directory) : State := { s with nd := x }
def State.setSv (s : State) (x : Survey) : State := { s with sv := x }
def State.setSm (s : State) (x : SlotMap) : State := { s with sm := x }
def State.setCl (s : State) (x : ChangeList) : State := { s with cl := x }
def State.setCe (s : State) (x : Commit) : State := { s with ce := x }
def State.setSu (s : State) (x : StreamUnit) : State := { s with su := x }
def State.setRq (s : State) (x : RequestQueue) : State := { s with rq := x }
def State.setEu (s : State) (x : EventUnit) : State := { s with eu := x }
def State.setReadData (s : State) (x : Word) : State := { s with readData := x }

/-! ### Events, faults and gaps -/

/-- Raise a sticky device event: its raw bit becomes 1 (R151). -/
def State.raise (s : State) (e : StickyEvent) : State :=
  s.setEu { s.eu with sticky := s.eu.sticky ||| (1#12 <<< e.bit) }

/-- Raise XRUN[n] (R122, R124, R151). -/
def State.raiseXrun (s : State) (n : Fin 8) : State :=
  s.setEu { s.eu with xrun := s.eu.xrun ||| (1#8 <<< n.val) }

/-- What an access fault makes of the Event Unit before ACCESS_FAULT is raised (R155). -/
def EventUnit.record (eu : EventUnit) (cause : FaultCause) (offset : WinOffset) (detail : Option EnableDetail) :
    EventUnit :=
  { eu with
    fault := match eu.fault with
      | some f => some f
      | none => some { cause := cause, offset := offset, stream := streamOfOffset offset, detail := detail }
    faultCount := satInc eu.faultCount }

/-- One access fault: the record is filled if it is not valid, FAULT_COUNT rises, ACCESS_FAULT is raised (R155). -/
def State.accessFault (s : State) (cause : FaultCause) (offset : WinOffset)
    (detail : Option EnableDetail := none) : State :=
  (s.setEu (s.eu.record cause offset detail)).raise .accessFault

/-- A gap record handed over: kept at the tail, or discarded with GAP_OVERFLOW raised (R158). -/
def State.recordGap (s : State) (g : GapRecord) : State :=
  if s.eu.gaps.length < Config.gapListSize then s.setEu { s.eu with gaps := s.eu.gaps ++ [g] }
  else s.raise .gapOverflow

/-- A host access is taken only while the part is not held: otherwise a write is ignored and nothing is
recorded (R160, R163). -/
def State.whenAlive (s : State) (f : State → State) : State := if s.held = true then s else f s

/-! ### Directory and streams -/

/-- The directory entry of an address (R56). -/
def State.entry (s : State) (a : NodeAddr) : Entry := s.nd[a]

/-- The entry of an address replaced. -/
def State.setEntry (s : State) (a : NodeAddr) (e : Entry) : State := s.setNd (upd s.nd a e)

/-- The entry of an address in another state, its other fields kept. -/
def State.setEntryState (s : State) (a : NodeAddr) (st : EntryState) : State :=
  s.setEntry a { s.entry a with state := st }

/-- The entry of an address made FREE, with the values of a FREE entry (R57). -/
def State.freeEntry (s : State) (a : NodeAddr) : State := s.setEntry a Entry.freeEntry

/-- The context of a stream (R112). -/
def State.stream (s : State) (n : Fin 8) : Stream := s.su.streams[n]

/-- The context of a stream replaced. -/
def State.setStream (s : State) (n : Fin 8) (st : Stream) : State :=
  s.setSu { s.su with streams := upd s.su.streams n st }

/-! ### Completions -/

/-- A completion written at the tail of the completion list, its request leaving the head of the queue (R145,
R147, R150). -/
def State.complete (s : State) (q : Request) (o : CplOutcome) (data : Option (BitVec 16)) (attempts : Nat) : State :=
  s.setRq { s.rq with
    queue := s.rq.queue.tail
    completions := s.rq.completions ++
      [{ tag := q.tag, kind := q.op.kind, addr := q.addr, outcome := o, data := data, attempts := attempts }] }

/-! ### Commit outcomes -/

/-- The result record of an abort (R106). -/
def CommitResult.abort (r : CommitResult) (cause : Reason) (node : Option NodeAddr) (acked : Nat) : CommitResult :=
  { CommitResult.blank with mode := r.mode, outcome := .aborted, reason := some cause, node := node, acked := some acked }

/-- An active commit ends ABORTED with cause LINK_STOP and the acknowledged count `acked`; the pending map and
the staging list are absent, the phase is IDLE and COMMIT_DONE is raised (R107, R108). -/
def State.abortLinkStop (s : State) (acked : Nat) : State :=
  (s.setCe { s.ce with
    phase := .idle, pending := none, staging := [], switchFrame := none, acked := acked
    result := s.ce.result.abort .linkStop none acked }).raise .commitDone

/-! ### The end of a survey -/

/-- The survey ends with outcome `o`: its counts are kept, the binding record is discarded, the state becomes
FINISHED and SURVEY_DONE is raised (R75). -/
def State.endSurvey (s : State) (o : SurveyOutcome) : State :=
  (s.setSv { state := .finished, result := { s.sv.result with outcome := o }, binding := none }).raise .surveyDone

/-! ### The link-down clear -/

/-- The clear in the Frame Engine: no run, no sync count, no quiet count, no frame in progress (R33). -/
def FrameEngine.linkDownClear (fe : FrameEngine) : FrameEngine :=
  { fe with
    contentionRun := 0, syncCount := 0, quietCount := 0, drainHeld := false, drainFromSync := false, pos := .ended }

/-- The clear in the Control Exchange: no command in progress, scan position 0 (R33, R55). -/
def Exchange.linkDownClear (cx : Exchange) : Exchange := { cx with inFlight := none, field := none, scan := 0 }

/-- The clear in the Slot Map: the active map is emptied, and the generation rises if it held a record (R33, R82). -/
def SlotMap.linkDownClear (sm : SlotMap) : SlotMap :=
  { active := SlotTable.empty
    generation := if sm.active = SlotTable.empty then sm.generation else sm.generation + 1 }

/-- The clear in the Commit Engine: the pending map and the staging list are discarded (R34). -/
def Commit.linkDownClear (ce : Commit) : Commit := { ce with pending := none, staging := [], switchFrame := none }

/-- The clear in the Stream Unit: every live set is empty, and no frame is served (R34, R130). -/
def StreamUnit.linkDownClear (su : StreamUnit) : StreamUnit :=
  { streams := mapTable (fun st => { st with live := [], sinceStart := false }) su.streams, drives := [] }

/-- The clear in the Request Queue: every waiting request is discarded, and the discard field records them where
there were any (R34, R150). -/
def RequestQueue.linkDownClear (rq : RequestQueue) : RequestQueue :=
  { rq with
    queue := []
    discard := if rq.queue.length = 0 then rq.discard else { count := rq.queue.length, cause := .linkStop } }

/-- The clear in the Survey Engine: a running survey ends STOPPED (R34, R76). -/
def State.stopSurvey (s : State) : State :=
  if s.sv.state.isRunning = true then s.endSurvey .stopped else s

/-- The clear in every block but the Survey Engine (R33, R34). -/
def State.clearBlocks (s : State) : State :=
  { s with
    fe := s.fe.linkDownClear, cx := s.cx.linkDownClear, nd := Directory.allFree, sm := s.sm.linkDownClear
    ce := s.ce.linkDownClear, su := s.su.linkDownClear, rq := s.rq.linkDownClear }

/-- The link-down clear (R33, R34). -/
def State.linkDownClear (s : State) : State := s.stopSurvey.clearBlocks

/-- The link in another state. -/
def State.setLink (s : State) (l : LinkState) : State := s.setFe { s.fe with link := l }

/-- The entry into DOWN: the clear, then LINK_DOWN (R29, R30). -/
def State.enterDown (s : State) : State := (s.linkDownClear.setLink .down).raise .linkDown

/-- A request in flight as the link enters FAULT completes LINK_DOWN with the attempt number then held (R150). -/
def State.failInFlightRequest (s : State) : State :=
  match s.cx.inFlight with
  | some r =>
    match r.source, s.rq.queue with
    | .request, q :: _ => s.complete q .linkDown none r.attempt
    | _, _ => s
  | none => s

/-- A commit in any phase but IDLE as the link enters FAULT ends ABORTED with cause LINK_STOP (R108). -/
def State.failCommit (s : State) : State :=
  if s.ce.phase = .idle then s else s.abortLinkStop s.ce.acked

/-- The entry into FAULT: the request in flight and the commit end, the clear is applied, LINK_FAULT is raised
(R32). -/
def State.enterFault (s : State) : State :=
  (s.failInFlightRequest.failCommit.linkDownClear.setLink .fault).raise .linkFault

/-! ### Device reset -/

/-- A device reset: every block takes its reset values. The levels of the two reset pins and the commands that
wait are not the blocks' state and stay (R35, R163). -/
def State.deviceReset (s : State) : State :=
  { State.reset with resetN := s.resetN, refclk := s.refclk, pending := s.pending }

end Sys2Proof.Machine
end

