-- ==== Sys2Proof/Machine/ChangeControl.lean ====
section
/-! DEFINITION. The host's writes to the Change List: CHG_APPEND and CHG_CLEAR. -/
namespace Sys2Proof.Machine

/-- An append judges the staging words in the order of R87: LIST_BUSY, LIST_FULL, FIELD_INVALID, accepted. -/
def State.appendChange (s : State) : State :=
  if s.ce.phase ≠ .idle then s.accessFault .listBusy Reg.chgAppend.offset
  else if Config.changeListSize ≤ s.cl.list.length then s.accessFault .listFull Reg.chgAppend.offset
  else
    match stagedChange s.cl.stage0 s.cl.stage1 with
    | none => s.accessFault .fieldInvalid Reg.chgAppend.offset
    | some c => s.setCl { s.cl with list := s.cl.list ++ [c] }

/-- CHG_APPEND (R87). -/
def execChgAppend (s : State) : Result := .next (s.whenAlive State.appendChange)

/-- A clear empties the change list when the commit phase is IDLE (R88). -/
def State.clearChanges (s : State) : State :=
  if s.ce.phase ≠ .idle then s.accessFault .listBusy Reg.chgClear.offset else s.setCl { s.cl with list := [] }

/-- CHG_CLEAR (R88). -/
def execChgClear (s : State) : Result := .next (s.whenAlive State.clearChanges)

end Sys2Proof.Machine
end

