-- ==== Sys2Proof/Machine/CommandField.lean ====
section
/-! DEFINITION. The command field of a frame: its 48 bits, the rows that send each command kind, and the end of the
field (R4, R36, R39, R103, R105). -/
namespace Sys2Proof.Machine

/-- The 40 covered bits of a command field and their check (R4, R5). -/
def fieldBits (target code : BitVec 4) (seq : Bool) (param : BitVec 28) : BitVec 48 :=
  let covered : BitVec 40 := target ++ code ++ BitVec.ofBool seq ++ 0#3 ++ param
  covered ++ crc8 covered

/-- The command field IDLE: target 15, code 0h, sequence bit 0, parameter 0 (R4). -/
def idleField : BitVec 48 := fieldBits 15 0 false 0

/-- The command an in-flight record sends: the resynchronising PING while that stage runs (R36, R48). -/
def InFlight.sending (r : InFlight) : LinkCommand :=
  match r.stage with
  | .resyncPing => .ping
  | .command => r.cmd

/-- The sequence bit of a sending: the directory's for a target 1 to 14, otherwise 0 (R4). -/
def State.seqBit (s : State) (t : Target) : Bool :=
  match t with
  | .node a => (s.entry a).seq
  | .unbound => false
  | .broadcast => false

/-- The command field of the current frame as the hub drives it (R4, R39). -/
def State.outgoingField (s : State) : BitVec 48 :=
  match s.cx.inFlight with
  | none => idleField
  | some r =>
    fieldBits r.target.bits r.sending.code (s.seqBit r.target)
      (r.sending.param s.fe.frameNo (s.ce.switchFrame.getD 0))

/-- The command the current frame sends, none for IDLE. -/
def State.sendingNow (s : State) : Option LinkCommand := s.cx.inFlight.map InFlight.sending

/-- At the placement of the first SWITCH copy the engine fixes T = s + 4 (R103). -/
def State.fixSwitchFrame (s : State) : State :=
  match s.sendingNow, s.ce.switchFrame with
  | some .switch, none => s.setCe { s.ce with switchFrame := some (s.fe.frameNo + Config.switchLead) }
  | _, _ => s

/-- The command field written for this frame, with the frame's position (R4). -/
def State.writeField (s : State) : State :=
  { s with cx := { s.cx with field := some s.outgoingField }, fe := { s.fe with pos := .placed } }

/-- The frame's command is placed in its command field, once a frame. -/
def State.placeField (s : State) : State :=
  if s.fe.before .placed = true then s.fixSwitchFrame.writeField else s

/-- The sending of a frame whose command is of the kind `p` names. -/
def State.sendIf (s : State) (p : LinkCommand → Bool) : State :=
  match s.sendingNow with
  | some c => if p c = true then s.placeField else s
  | none => s

/-- IDENTIFY is sent to address 0 (R14). -/
def execIdentify (s : State) : Result :=
  .next (s.sendIf fun c => match c with | .identify => true | _ => false)

/-- ASSIGN is sent to address 0 with the new address (R15). -/
def execAssign (s : State) : Result :=
  .next (s.sendIf fun c => match c with | .assign _ => true | _ => false)

/-- PING is sent with the low eight bits of this frame's number (R10). -/
def execPing (s : State) : Result :=
  .next (s.sendIf fun c => match c with | .ping => true | _ => false)

/-- READ is sent (R11). -/
def execRead (s : State) : Result :=
  .next (s.sendIf fun c => match c with | .read _ => true | _ => false)

/-- WRITE is sent (R11). -/
def execWrite (s : State) : Result :=
  .next (s.sendIf fun c => match c with | .write _ _ => true | _ => false)

/-- SLOT_SET is sent (R12, R101). -/
def execSlotSet (s : State) : Result :=
  .next (s.sendIf fun c => match c with | .slotSet _ _ _ _ => true | _ => false)

/-- SLOT_CLEAR is sent (R12, R101). -/
def execSlotClear (s : State) : Result :=
  .next (s.sendIf fun c => match c with | .slotClear _ _ => true | _ => false)

/-- A SWITCH copy is broadcast; the first copy fixes T (R103). -/
def execSwitch (s : State) : Result :=
  .next (s.sendIf fun c => match c with | .switch => true | _ => false)

/-- A CANCEL copy is broadcast (R105). -/
def execCancel (s : State) : Result :=
  .next (s.sendIf fun c => match c with | .cancel => true | _ => false)

/-- PARK is sent (R13). -/
def execPark (s : State) : Result :=
  .next (s.sendIf fun c => match c with | .park => true | _ => false)

/-- RESUME is sent (R13). -/
def execResume (s : State) : Result :=
  .next (s.sendIf fun c => match c with | .resume => true | _ => false)

/-- UNBIND is sent (R13). -/
def execUnbind (s : State) : Result :=
  .next (s.sendIf fun c => match c with | .unbind => true | _ => false)

/-- A copy counted; the third CANCEL copy ends the cancel: phase IDLE, copies 0, COMMIT_DONE (R103, R105). -/
def State.countCopy (s : State) : State :=
  if s.ce.phase = .cancelling ∧ Config.broadcastCopies ≤ s.ce.copies + 1 then
    (s.setCe { s.ce with phase := .idle, copies := 0 }).raise .commitDone
  else s.setCe { s.ce with copies := s.ce.copies + 1 }

/-- A broadcast reaches its outcome "sent" at the end of its command field (R36). -/
def State.concludeBroadcast (s : State) : State :=
  match s.cx.inFlight with
  | some r =>
    match r.target with
    | .broadcast => (s.setCx { s.cx with inFlight := none }).countCopy
    | .unbound => s
    | .node _ => s
  | none => s

/-- The end of the last command-field bit, once a frame (R1, R36). -/
def State.fieldSent (s : State) : State :=
  if s.fe.before .sent = true then
    let t := s.placeField.concludeBroadcast
    t.setFe { t.fe with pos := .sent }
  else s

/-- COMMAND_FIELD_SENT (R36). -/
def execCommandFieldSent (s : State) : Result := .next s.fieldSent

/-- The command field of this frame carries the third CANCEL copy (R105). -/
def State.sendsLastCancel (s : State) : Bool :=
  decide (s.ce.phase = .cancelling) && decide (Config.broadcastCopies ≤ s.ce.copies + 1) &&
    decide (s.sendingNow = some .cancel)

/-- CANCEL_COMPLETE: the end of the command field of the third CANCEL copy (R105). -/
def execCancelComplete (s : State) : Result := .next (if s.sendsLastCancel = true then s.fieldSent else s)

end Sys2Proof.Machine
end

