-- ==== Sys2Proof/Machine/Validation.lean ====
section
/-! DEFINITION. Validation of the change list (R90 to R95). -/
namespace Sys2Proof.Machine

/-- The verdict of a validation (R90). -/
inductive Verdict where
  | refusedEmpty
  | refusedSlotNumber (index : Nat)
  | refusedCheck (reason : Reason) (slot : Fin 32)
  | unchanged
  | changed (final : SlotTable)
  deriving DecidableEq, Repr

/-- One change record applied to the working copy; none where it is refused SLOT_NUMBER (R91 step 2). -/
def applyChange (m : SlotTable) (c : Change) : Option SlotTable :=
  match c with
  | .add k r => match m[k] with
    | none => some (upd m k (some r))
    | some _ => none
  | .drop k => match m[k] with
    | none => none
    | some _ => some (upd m k none)
  | .move k st => match m[k] with
    | none => none
    | some r => some (upd m k (some { r with start := st }))

/-- The sequential pass from change index `i` on: the final map, or the index of the record refused (R91). -/
def applyChanges : List Change → Nat → SlotTable → Except Nat SlotTable
  | [], _, m => .ok m
  | c :: rest, i, m =>
    match applyChange m c with
    | none => .error i
    | some m' => applyChanges rest (i + 1) m'

/-- The first slot number, ascending, whose record fails the check (R91 step 3). -/
def firstFailing (m : SlotTable) (fails : Fin 32 → SlotRecord → Bool) : Option (Fin 32) :=
  slotNumbers.find? fun k => match m[k] with
    | some r => fails k r
    | none => false

/-- Some record of the map with a slot number that satisfies `p`. -/
def anyRecord (m : SlotTable) (p : Fin 32 → SlotRecord → Bool) : Bool :=
  slotNumbers.any fun k => match m[k] with
    | some r => p k r
    | none => false

/-- The first bit position after a slot (R78). -/
def SlotRecord.stop (r : SlotRecord) : Nat := r.start.toNat + r.width.bits

/-- Two slots share a bit position: each starts before the other ends (R92). -/
def SlotRecord.intersects (r r' : SlotRecord) : Bool :=
  decide (r.start.toNat < r'.stop) && decide (r'.start.toNat < r.stop)

/-- RANGE: start plus width exceeds L (R92). -/
def failsRange (len : Nat) (_ : Fin 32) (r : SlotRecord) : Bool := decide (len < r.stop)

/-- OVERLAP: it intersects a record with a higher slot number (R92). -/
def failsOverlap (m : SlotTable) (k : Fin 32) (r : SlotRecord) : Bool :=
  anyRecord m fun j r' => decide (k < j) && r.intersects r'

/-- OWNER: its owner entry is not READY or PARKED (R93). -/
def failsOwner (nd : Directory) (_ : Fin 32) (r : SlotRecord) : Bool := !nd[r.owner].state.keepsSlots

/-- The port count for a direction, from capability A: bits 3-0 CAPTURE, bits 7-4 PLAYBACK (R18, R93). -/
def portCount (a : BitVec 16) : Dir → Nat
  | .capture => (a.extractLsb' 0 4).toNat
  | .playback => (a.extractLsb' 4 4).toNat

/-- CAPABILITY: its port or its width is not among its owner's capabilities (R93). -/
def failsCapability (nd : Directory) (_ : Fin 32) (r : SlotRecord) : Bool :=
  match nd[r.owner].caps with
  | some c => decide (portCount c.a r.dir ≤ r.port.val) || !c.b.getLsbD r.width.code.toNat
  | none => true

/-- PORT_CLASH: a record with a higher slot number has the same owner, direction and port (R93). -/
def failsPortClash (m : SlotTable) (k : Fin 32) (r : SlotRecord) : Bool :=
  anyRecord m fun j r' => decide (k < j) && decide (r'.owner = r.owner ∧ r'.dir = r.dir ∧ r'.port = r.port)

/-- STREAM_MISMATCH: its direction or width differs from its stream's (R94). -/
def failsStreamMismatch (ss : Vector Stream 8) (_ : Fin 32) (r : SlotRecord) : Bool :=
  decide (r.dir ≠ ss[r.stream].dir ∨ r.width ≠ ss[r.stream].width)

/-- LANE: its lane is at least its stream's number of records, or a lower slot number of the stream holds the
same lane (R94). -/
def failsLane (m : SlotTable) (k : Fin 32) (r : SlotRecord) : Bool :=
  decide (recordCount m r.stream ≤ r.lane.val) ||
    anyRecord m fun j r' => decide (j < k) && decide (r'.stream = r.stream ∧ r'.lane = r.lane)

/-- CAPACITY: its stream is enabled and has less capacity than records (R94). -/
def failsCapacity (m : SlotTable) (ss : Vector Stream 8) (_ : Fin 32) (r : SlotRecord) : Bool :=
  ss[r.stream].enabled && decide (ss[r.stream].capacity < recordCount m r.stream)

/-- The eight final-map checks in their order (R91 step 3). -/
def finalChecks (len : Nat) (nd : Directory) (ss : Vector Stream 8) (m : SlotTable) :
    List (Reason × (Fin 32 → SlotRecord → Bool)) :=
  [(.range, failsRange len), (.overlap, failsOverlap m), (.owner, failsOwner nd), (.capability, failsCapability nd),
    (.portClash, failsPortClash m), (.streamMismatch, failsStreamMismatch ss), (.lane, failsLane m),
    (.capacity, failsCapacity m ss)]

/-- The first check that fails, with the slot number it reports (R91 step 3). -/
def firstRefusal (m : SlotTable) : List (Reason × (Fin 32 → SlotRecord → Bool)) → Option (Reason × Fin 32)
  | [] => none
  | (reason, fails) :: rest =>
    match firstFailing m fails with
    | some k => some (reason, k)
    | none => firstRefusal m rest

/-- Validation of a change list against its five inputs (R90, R91, R95). -/
def validate (list : List Change) (active : SlotTable) (len : Nat) (nd : Directory) (ss : Vector Stream 8) : Verdict :=
  match list with
  | [] => .refusedEmpty
  | _ :: _ =>
    match applyChanges list 0 active with
    | .error i => .refusedSlotNumber i
    | .ok m =>
      match firstRefusal m (finalChecks len nd ss m) with
      | some (reason, k) => .refusedCheck reason k
      | none => if m = active then .unchanged else .changed m

/-- Validation of the present state: L is the one LINK_CFG holds (R21, R90). -/
def State.validate (s : State) : Verdict :=
  Sys2Proof.Machine.validate s.cl.list s.sm.active s.fe.cfg.frameLength s.nd s.su.streams

/-- The result record of a commit of mode `mode` that ends with outcome `o` and nothing else present (R106). -/
def CommitResult.plain (mode : CommitMode) (o : CommitOutcome) : CommitResult :=
  { CommitResult.blank with mode := some mode, outcome := o }

/-- The result record of a refusal (R96, R106). -/
def CommitResult.refusal (mode : CommitMode) (reason : Reason) (index : Option Nat) (slot : Option (Fin 32)) :
    CommitResult :=
  { CommitResult.blank with
    mode := some mode, outcome := .refused, reason := some reason, changeIndex := index, slot := slot }

/-- The result record of a verdict; `passed` is the outcome of a verdict that passed (R96). -/
def Verdict.result (v : Verdict) (mode : CommitMode) (passed : CommitOutcome) : CommitResult :=
  match v with
  | .refusedEmpty => .refusal mode .empty none none
  | .refusedSlotNumber i => .refusal mode .slotNumber (some i) none
  | .refusedCheck reason k => .refusal mode reason none (some k)
  | .unchanged => .plain mode passed
  | .changed _ => .plain mode passed

end Sys2Proof.Machine
end

