-- ==== Sys2Proof/Machine/CommitControl.lean ====
section
/-! DEFINITION. The host's writes to COMMIT (R96, R98). -/
namespace Sys2Proof.Machine

/-- A commit outcome recorded with COMMIT_DONE raised; the phase is IDLE. -/
def State.recordCommit (s : State) (r : CommitResult) : State :=
  (s.setCe { s.ce with result := r }).raise .commitDone

/-- CHECK with the phase IDLE: validated at once in any link state and recorded (R96). -/
def State.commitCheck (s : State) : State := s.recordCommit (s.validate.result .check .checked)

/-- An accepted APPLY: the phase is PENDING and the record reads mode APPLY, outcome NONE (R98). -/
def State.acceptApply (s : State) : State :=
  s.setCe { s.ce with phase := .pending, acked := 0, copies := 0, result := .plain .apply .none }

/-- APPLY with the phase IDLE: refused LINK_NOT_UP outside UP, otherwise accepted (R98). -/
def State.commitApply (s : State) : State :=
  if s.fe.link = .up then s.acceptApply else s.recordCommit (.refusal .apply .linkNotUp none none)

/-- A write to COMMIT by the mode it names; the first case of R98 that applies decides. -/
def State.writeCommit (s : State) (mode : Option CommitMode) : State :=
  match mode with
  | none => s.accessFault .fieldInvalid Reg.commit.offset
  | some m =>
    if s.ce.phase ≠ .idle then s.accessFault .stateRefused Reg.commit.offset
    else match m with
      | .check => s.commitCheck
      | .apply => s.commitApply

/-- The mode field of a word written to COMMIT (chapter 11.4). -/
def commitModeOf (w : Word) : Option CommitMode :=
  if bitsAt w 0 2 = 1 then some .check else if bitsAt w 0 2 = 2 then some .apply else none

/-- COMMIT_CHECK (R96). -/
def execCommitCheck (s : State) : Result := .next (s.whenAlive (·.writeCommit (some .check)))

/-- COMMIT_APPLY (R98). -/
def execCommitApply (s : State) : Result := .next (s.whenAlive (·.writeCommit (some .apply)))

end Sys2Proof.Machine
end

