-- ==== Sys2Proof/Machine/DataPort.lean ====
section
/-! DEFINITION. The data ports: capture reads and playback writes (R131 to R136). -/
namespace Sys2Proof.Machine

/-- The low w bits of a word, w the width (R115, R134). -/
def Width.lowBits (w : Width) (x : Word) : Sample :=
  match w with
  | .w8 => (x.setWidth 8).setWidth 32
  | .w16 => (x.setWidth 16).setWidth 32
  | .w20 => (x.setWidth 20).setWidth 32
  | .w24 => (x.setWidth 24).setWidth 32
  | .w32 => x

/-- A sample extended to the word: zeros, or copies of bit w − 1, above it (R132). -/
def Width.extend (w : Width) (signExt : Bool) (x : Sample) : Word :=
  if signExt = true then
    match w with
    | .w8 => (x.setWidth 8).signExtend 32
    | .w16 => (x.setWidth 16).signExtend 32
    | .w20 => (x.setWidth 20).signExtend 32
    | .w24 => (x.setWidth 24).signExtend 32
    | .w32 => x
  else w.lowBits x

/-- A sample extended to one half of a packed word: the rule of R132 over 16 bits (R133). -/
def Width.extendHalf (w : Width) (signExt : Bool) (x : Sample) : BitVec 16 := (w.extend signExt x).setWidth 16

/-- What a read of a capture port returns, removes and does to the half flag, and whether it is DRY (R132, R133). -/
def Stream.captureRead (st : Stream) : Word × Stream × Bool :=
  if st.packing = true then
    match st.queue with
    | a :: b :: rest =>
      (st.width.extendHalf st.signExt b ++ st.width.extendHalf st.signExt a,
        ({ st with queue := rest, half := false }).judged, false)
    | [a] => ((st.width.extendHalf st.signExt a).setWidth 32, ({ st with queue := [], half := true }).judged, false)
    | [] => (0, st, true)
  else
    match st.queue with
    | a :: rest => (st.width.extend st.signExt a, ({ st with queue := rest }).judged, false)
    | [] => (0, st, true)

/-- A read of DATA_PORT[n], judged in the order of R131; the word read is left in `readData`. -/
def State.readPort (s : State) (n : Fin 8) : State :=
  if (s.stream n).enabled = false then (s.setReadData 0).accessFault .streamDisabled (Reg.dataPort n).offset
  else
    match (s.stream n).dir with
    | .playback => (s.setReadData 0).accessFault .wrongDirection (Reg.dataPort n).offset
    | .capture =>
      match (s.stream n).captureRead with
      | (w, st, dry) =>
        if dry = true then (s.setReadData w).accessFault .dry (Reg.dataPort n).offset
        else (s.setReadData w).setStream n st

/-- CAPTURE_READ: a read of DATA_PORT[n]; while the part is held it returns 0 (R131, R160). -/
def execCaptureRead (n : Fin 8) (s : State) : Result :=
  .next (if s.held = true then s.setReadData 0 else s.readPort n)

/-- What a write to a playback port adds and does to the half flag, and whether it is a SPILL (R134, R135). -/
def Stream.playbackWrite (st : Stream) (w : Word) : Stream × Bool :=
  if st.packing = true then
    if 2 ≤ st.freeCount then
      (({ st with
        queue := st.queue ++ [st.width.lowBits ((w.setWidth 16).setWidth 32), st.width.lowBits (w >>> 16)]
        half := false }).judged, false)
    else if st.freeCount = 1 then
      (({ st with queue := st.queue ++ [st.width.lowBits ((w.setWidth 16).setWidth 32)], half := true }).judged, true)
    else (st, true)
  else if 1 ≤ st.freeCount then (({ st with queue := st.queue ++ [st.width.lowBits w] }).judged, false)
  else (st, true)

/-- A write to DATA_PORT[n], judged in the order of R131. -/
def State.writePort (s : State) (n : Fin 8) (w : Word) : State :=
  if (s.stream n).enabled = false then s.accessFault .streamDisabled (Reg.dataPort n).offset
  else
    match (s.stream n).dir with
    | .capture => s.accessFault .wrongDirection (Reg.dataPort n).offset
    | .playback =>
      match (s.stream n).playbackWrite w with
      | (st, spill) =>
        if spill = true then (s.setStream n st).accessFault .spill (Reg.dataPort n).offset else s.setStream n st

/-- PLAYBACK_WRITE: a write to DATA_PORT[n] (R131). -/
def execPlaybackWrite (n : Fin 8) (w : Word) (s : State) : Result := .next (s.whenAlive (·.writePort n w))

end Sys2Proof.Machine
end

