-- ==== Sys2Proof/Machine/EventControl.lean ====
section
/-! DEFINITION. The host's writes to the Event Unit: EVT_CLEAR, SEVT_CLEAR, the enables, FAULT_RECORD, GAP_POP. -/
namespace Sys2Proof.Machine

/-- A 1 in the position of a sticky device event sets it to 0; level events are not touched (R151, R152). -/
def State.writeEvtClear (s : State) (w : Word) : State :=
  s.setEu { s.eu with sticky := s.eu.sticky &&& ~~~(bitsAt w 0 12) }

/-- EVT_CLEAR (R151). -/
def execEvtClear (w : Word) (s : State) : Result := .next (s.whenAlive (·.writeEvtClear w))

/-- A 1 in the position of XRUN[n], bit 8 + n, sets it to 0; SERVICE is not touched (R151, R152). -/
def State.writeSevtClear (s : State) (w : Word) : State :=
  s.setEu { s.eu with xrun := s.eu.xrun &&& ~~~(bitsAt w 8 8) }

/-- SEVT_CLEAR (R151). -/
def execSevtClear (w : Word) (s : State) : Result := .next (s.whenAlive (·.writeSevtClear w))

/-- Every device event enable takes the value written (R153). -/
def State.writeEvtEnable (s : State) (w : Word) : State := s.setEu { s.eu with enable := bitsAt w 0 12 }

/-- EVT_ENABLE (R153). -/
def execEvtEnable (w : Word) (s : State) : Result := .next (s.whenAlive (·.writeEvtEnable w))

/-- Every stream event enable takes the value written (R153). -/
def State.writeSevtEnable (s : State) (w : Word) : State := s.setEu { s.eu with senable := bitsAt w 0 16 }

/-- SEVT_ENABLE (R153). -/
def execSevtEnable (w : Word) (s : State) : Result := .next (s.whenAlive (·.writeSevtEnable w))

/-- A write to FAULT_RECORD clears the record and FAULT_COUNT, and leaves ACCESS_FAULT (R157). -/
def State.clearFaultRecord (s : State) : State := s.setEu { s.eu with fault := none, faultCount := 0 }

/-- FAULT_RECORD_CLEAR (R157). -/
def execFaultRecordClear (s : State) : Result := .next (s.whenAlive State.clearFaultRecord)

/-- A write to GAP_POP removes the head gap record, or records EMPTY_POP (R159). -/
def State.popGap (s : State) : State :=
  match s.eu.gaps with
  | [] => s.accessFault .emptyPop Reg.gapPop.offset
  | _ :: rest => s.setEu { s.eu with gaps := rest }

/-- GAP_POP (R159). -/
def execGapPop (s : State) : Result := .next (s.whenAlive State.popGap)

end Sys2Proof.Machine
end

