-- ==== Sys2Proof/Machine/Arbiter.lean ====
section
/-! DEFINITION. The arbiter's offers at a frame start: the Commit Engine, the Survey Engine, the Request Queue and
keepalive (R37, R38, R40, R48, R51, R70, R99 to R103, R105, R145, R146). -/
namespace Sys2Proof.Machine

/-- A grant begins with a resynchronising PING: the target entry is marked RESYNC and the command is no PING (R48). -/
def State.needsResync (s : State) (t : Target) (c : LinkCommand) : Bool :=
  match t with
  | .node a => (s.entry a).resync && decide (c ≠ .ping)
  | .unbound => false
  | .broadcast => false

/-- The field granted to a source for a command: attempt 1, no waits (R36, R48). -/
def State.grant (s : State) (src : Source) (t : Target) (c : LinkCommand) : State :=
  s.setCx { s.cx with
    inFlight := some
      { source := src, target := t, cmd := c, attempt := 1, waits := 0
        stage := if s.needsResync t c = true then .resyncPing else .command } }

/-! ### Commit Engine -/

/-- The SLOT_CLEAR of a record leaving the map (R100). -/
def clearCmd (k : Fin 32) (r : SlotRecord) : StagingCmd :=
  { slot := k, target := r.owner, port := r.port, dir := r.dir, op := .clear }

/-- The SLOT_SET of a record of the new map (R100). -/
def setCmd (k : Fin 32) (r : SlotRecord) : StagingCmd :=
  { slot := k, target := r.owner, port := r.port, dir := r.dir, op := .set r.width r.start }

/-- The SLOT_CLEAR commands a slot number gives (R100). -/
def slotClears (old new : SlotTable) (k : Fin 32) : List StagingCmd :=
  match old[k], new[k] with
  | some r, none => [clearCmd k r]
  | some r, some r' => if r.owner = r'.owner ∧ r.port = r'.port ∧ r.dir = r'.dir then [] else [clearCmd k r]
  | none, _ => []

/-- The SLOT_SET commands a slot number gives (R100). -/
def slotSets (old new : SlotTable) (k : Fin 32) : List StagingCmd :=
  match old[k], new[k] with
  | none, some r' => [setCmd k r']
  | some r, some r' => if r = r' then [] else [setCmd k r']
  | _, none => []

/-- The staging list: by target ascending, its clears before its sets, each by ascending slot number (R100). -/
def stagingList (old new : SlotTable) : List StagingCmd :=
  addresses.flatMap fun a =>
    (slotNumbers.flatMap (slotClears old new)).filter (fun c => c.target = a) ++
      (slotNumbers.flatMap (slotSets old new)).filter (fun c => c.target = a)

/-- A staging command as it is handed to the Control Exchange (R100). -/
def StagingCmd.linkCommand (c : StagingCmd) : LinkCommand :=
  match c.op with
  | .set w st => .slotSet c.port c.dir w st
  | .clear => .slotClear c.port c.dir

/-- The command at the head of the staging list is granted the field (R101). -/
def State.grantStaging (s : State) : State :=
  match s.ce.staging with
  | [] => s
  | c :: _ => s.grant .commit (.node c.target) c.linkCommand

/-- A commit that ends at its validation: the result recorded, phase IDLE, COMMIT_DONE (R99). -/
def State.endAtValidation (s : State) (r : CommitResult) : State :=
  (s.setCe { s.ce with phase := .idle, result := r }).raise .commitDone

/-- A validation that passed and changed: the final map is pending, the staging list is built, phase STAGING (R99). -/
def State.beginStaging (s : State) (final : SlotTable) : State :=
  s.setCe { s.ce with phase := .staging, pending := some final, staging := stagingList s.sm.active final }

/-- A PENDING commit at its first offer (R99). -/
def State.validatePending (s : State) : State :=
  match s.validate with
  | .changed final => (s.beginStaging final).grantStaging
  | .unchanged => (s.setCl { s.cl with list := [] }).endAtValidation (.plain .apply .unchanged)
  | .refusedEmpty => s.endAtValidation (.refusal .apply .empty none none)
  | .refusedSlotNumber i => s.endAtValidation (.refusal .apply .slotNumber (some i) none)
  | .refusedCheck reason k => s.endAtValidation (.refusal .apply reason none (some k))

/-- A broadcast copy while fewer than three have been sent (R38, R103, R105). -/
def State.grantCopy (s : State) (c : LinkCommand) : State :=
  if s.ce.copies < Config.broadcastCopies then s.grant .commit .broadcast c else s

/-- The Commit Engine offered the field (R38, R40). -/
def State.offerCommit (s : State) : State :=
  match s.ce.phase with
  | .idle => s
  | .pending => if s.fe.link = .up then s.validatePending else s
  | .staging => if s.fe.link = .up then s.grantStaging else s
  | .switching => s.grantCopy .switch
  | .cancelling => s.grantCopy .cancel

/-! ### Survey Engine -/

/-- The survey's next command with its target (R70). -/
def Survey.nextCommand (sv : Survey) : Option (Target × LinkCommand) :=
  match sv.state, sv.binding with
  | .seeking, _ => some (.unbound, .identify)
  | .elected, some b => some (.unbound, .assign b.target)
  | .binding, some b =>
    match b.capA with
    | none => some (.node b.target, .read 0x00)
    | some _ => some (.node b.target, .read 0x01)
  | _, _ => none

/-- The Survey Engine offered the field: ready in UP while a survey runs (R38, R40, R70). -/
def State.offerSurvey (s : State) : State :=
  if s.fe.link = .up then
    match s.sv.nextCommand with
    | some (t, c) => s.grant .survey t c
    | none => s
  else s

/-! ### Request Queue -/

/-- The result of an issue-time check (R146): settled with an outcome, the entry freed or not, or sent. -/
inductive IssueResult where
  | settled (o : CplOutcome) (frees : Bool)
  | sent (c : LinkCommand)
  deriving DecidableEq, Repr

/-- What a request gives against a READY or PARKED entry, and otherwise NOT_BOUND (R146). -/
def sentIfPresent (st : EntryState) (c : LinkCommand) : IssueResult :=
  if st.keepsSlots = true then .sent c else .settled .notBound false

/-- Capability A's park bit, bit 8 (R18). -/
def Entry.parkBit (e : Entry) : Bool :=
  match e.caps with
  | some c => c.a.getLsbD 8
  | none => false

/-- The issue-time checks (R146). -/
def issueCheck (op : ReqOp) (e : Entry) : IssueResult :=
  match op with
  | .nodeRead r => sentIfPresent e.state (.read r)
  | .nodeWrite r d => if r.toNat < 0x10 then .settled .isProtected false else sentIfPresent e.state (.write r d)
  | .ping => sentIfPresent e.state .ping
  | .park =>
    match e.state with
    | .ready => if e.parkBit = true then .sent .park else .settled .unsupported false
    | .parked => .settled .done false
    | _ => .settled .notBound false
  | .resume =>
    match e.state with
    | .ready => .settled .done false
    | .parked => .sent .resume
    | _ => .settled .notBound false
  | .release =>
    match e.state with
    | .free => .settled .notBound false
    | .bound => .settled .done true
    | .lost => .settled .done true
    | .ready => .sent .unbind
    | .parked => .sent .unbind

/-- A request settled at issue time: its directory change made, its completion written with attempts 0 (R145, R146). -/
def State.settle (s : State) (q : Request) (o : CplOutcome) (frees : Bool) : State :=
  (if frees = true then s.freeEntry q.addr else s).complete q o none 0

/-- The Request Queue working through its queue from the head, at most `fuel` requests (R145). -/
def State.issueRequests : Nat → State → State
  | 0, s => s
  | fuel + 1, s =>
    if Config.completionListSize ≤ s.rq.completions.length then s
    else
      match s.rq.queue with
      | [] => s
      | q :: _ =>
        match issueCheck q.op (s.entry q.addr) with
        | .settled o frees => State.issueRequests fuel (s.settle q o frees)
        | .sent c => s.grant .request (.node q.addr) c

/-- The Request Queue offered the field (R38, R145). -/
def State.offerRequests (s : State) : State :=
  if s.fe.link = .up then State.issueRequests s.rq.queue.length s else s

/-! ### Keepalive -/

/-- An entry is due: READY or PARKED, and not heard for at least the ping interval (R51). -/
def Entry.due (e : Entry) (now : FrameNo) (interval : BitVec 12) : Bool :=
  e.state.keepsSlots && decide (interval.toNat ≤ (now - e.lastHeard).toNat)

/-- The entry of an address is due now (R51). -/
def State.isDue (s : State) (a : NodeAddr) : Bool := (s.entry a).due s.fe.frameNo s.cx.cfg.interval

/-- The due entry keepalive takes: the lowest address above the scan position, else the lowest (R51). -/
def State.dueEntry (s : State) : Option NodeAddr :=
  match addresses.find? (fun a => decide (s.cx.scan < a.val + 1) && s.isDue a) with
  | some a => some a
  | none => addresses.find? s.isDue

/-- Keepalive offered the field; granted, its scan position becomes the address pinged (R51). -/
def State.offerKeepalive (s : State) : State :=
  if s.fe.link = .up ∧ s.cx.cfg.interval ≠ 0 then
    match s.dueEntry with
    | some a => (s.setCx { s.cx with scan := a.val + 1 }).grant .keepalive (.node a) .ping
    | none => s
  else s

/-! ### The arbiter -/

/-- The field offered to a source where no source before it has taken it (R37). -/
def State.offerTo (s : State) (f : State → State) : State := if s.cx.inFlight.isSome = true then s else f s

/-- The command field settled at a frame start of UP or DRAINING: a command in progress keeps it, otherwise the
sources are offered it in the fixed order (R37). -/
def State.settleField (s : State) : State :=
  (((s.offerTo State.offerCommit).offerTo State.offerSurvey).offerTo State.offerRequests).offerTo State.offerKeepalive

end Sys2Proof.Machine
end

