-- ==== Sys2Proof/Machine/StreamControl.lean ====
section
/-! DEFINITION. The host's writes to a stream's block: CFG, LEVELS, CTRL and COUNTS (R113, R114, R116 to R119, R126). -/
namespace Sys2Proof.Machine

/-- The capacities of the seven other streams, summed (R113). -/
def otherCapacities (ss : Vector Stream 8) (n : Fin 8) : Nat :=
  (streamNumbers.filter fun k => k ≠ n).foldl (fun acc k => acc + ss[k].capacity) 0

/-- A write to a stream's CFG, judged in the order of R113. -/
def State.writeStreamCfg (s : State) (n : Fin 8) (w : Word) : State :=
  if (s.stream n).enabled = true then s.accessFault .stateLocked (Reg.streamCfg n).offset
  else
    match (streamCfgOf w).validWidth with
    | none => s.accessFault .fieldInvalid (Reg.streamCfg n).offset
    | some width =>
      if Config.poolSize < (streamCfgOf w).capacity + otherCapacities s.su.streams n then
        s.accessFault .poolExceeded (Reg.streamCfg n).offset
      else
        s.setStream n { s.stream n with
          dir := (streamCfgOf w).dir, width := width, capacity := (streamCfgOf w).capacity
          packing := (streamCfgOf w).packing, signExt := (streamCfgOf w).signExt
          fillMode := (streamCfgOf w).fillMode }

/-- STREAM_CFG (R113). -/
def execStreamCfg (n : Fin 8) (w : Word) (s : State) : Result := .next (s.whenAlive (·.writeStreamCfg n w))

/-- A write to a stream's LEVELS, after which DRQ[n] is judged again (R114, R139). -/
def State.writeStreamLevels (s : State) (n : Fin 8) (w : Word) : State :=
  s.setStream n ({ s.stream n with
    service := bitsAt w 0 10, burst := bitsAt w 10 10, startLevel := bitsAt w 20 10 }).judged

/-- STREAM_LEVELS (R114). -/
def execStreamLevels (n : Fin 8) (w : Word) (s : State) : Result := .next (s.whenAlive (·.writeStreamLevels n w))

/-- A record of stream `n` in the map differs from the stream's direction or width (R117). -/
def mapMismatch (m : SlotTable) (n : Fin 8) (st : Stream) : Bool :=
  slotNumbers.any fun k => match m[k] with
    | some r => decide (r.stream = n) && decide (r.dir ≠ st.dir ∨ r.width ≠ st.width)
    | none => false

/-- The maps an enable is judged against: the active map, and a pending map while one is held (R117). -/
def State.enableMaps (s : State) : List SlotTable :=
  match s.ce.pending with
  | none => [s.sm.active]
  | some p => [s.sm.active, p]

/-- Why an ENABLE of a DISABLED stream is refused, if it is; the first case of R117 that holds. -/
def State.enableRefusal (s : State) (n : Fin 8) : Option EnableDetail :=
  let st := s.stream n
  if st.capacity = 0 then some .noCapacity
  else if (s.enableMaps.any fun m => decide (st.capacity < recordCount m n)) = true then some .capacityShort
  else if (s.enableMaps.any fun m => mapMismatch m n st) = true then some .mismatch
  else none

/-- The slot numbers of a stream's records whose owners are READY, ascending (R118, R120). -/
def liveSlots (m : SlotTable) (nd : Directory) (n : Fin 8) : List (Fin 32) :=
  slotNumbers.filter fun k => match m[k] with
    | some r => decide (r.stream = n) && decide (nd[r.owner].state = .ready)
    | none => false

/-- What an accepted enable makes of the stream's context; `live` is the live set of that moment (R118, R136). -/
def Stream.enable (st : Stream) (live : List (Fin 32)) : Stream :=
  ({ st with
    queue := [], counter := 0, hold := Vector.replicate 8 0, xrun := false, live := live, half := false
    sinceStart := false
    state := match st.dir with
      | .capture => .running
      | .playback => .priming }).judged

/-- The START record of an enable: the frame above the one held, index 0 (R118). -/
def startRecord (n : Fin 8) (f : FrameNo) (live : List (Fin 32)) : GapRecord :=
  { stream := n, kind := .start, frame := f + 1, index := 0, lanes := some live.length }

/-- The action ENABLE: nothing for an enabled stream, otherwise refused or taken (R116 to R118). -/
def State.enableStream (s : State) (n : Fin 8) : State :=
  if (s.stream n).enabled = true then s
  else
    match s.enableRefusal n with
    | some d => s.accessFault .enableRefused (Reg.streamCtrl n).offset (some d)
    | none =>
      (s.setStream n ((s.stream n).enable (liveSlots s.sm.active s.nd n))).recordGap
        (startRecord n s.fe.frameNo (liveSlots s.sm.active s.nd n))

/-- What a disable makes of an enabled stream's context (R119). -/
def Stream.disable (st : Stream) : Stream :=
  if st.enabled = true then ({ st with state := .disabled, queue := [], sinceStart := false }).judged else st

/-- The action DISABLE (R116, R119). -/
def State.disableStream (s : State) (n : Fin 8) : State := s.setStream n (s.stream n).disable

/-- The DMA enable bit takes the value written, and DRQ[n] is judged again (R116, R139). -/
def State.setDma (s : State) (n : Fin 8) (dma : Bool) : State :=
  s.setStream n ({ s.stream n with dma := dma }).judged

/-- A write to a stream's CTRL: its two action bits and the DMA enable bit (R116). -/
def State.writeStreamCtrl (s : State) (n : Fin 8) (enable disable dma : Bool) : State :=
  match enable, disable with
  | true, true => s.accessFault .stateRefused (Reg.streamCtrl n).offset
  | true, false => (s.setDma n dma).enableStream n
  | false, true => (s.setDma n dma).disableStream n
  | false, false => s.setDma n dma

/-- STREAM_ENABLE (R116, R118). -/
def execStreamEnable (n : Fin 8) (dma : Bool) (s : State) : Result :=
  .next (s.whenAlive (·.writeStreamCtrl n true false dma))

/-- STREAM_DISABLE (R116, R119). -/
def execStreamDisable (n : Fin 8) (dma : Bool) (s : State) : Result :=
  .next (s.whenAlive (·.writeStreamCtrl n false true dma))

/-- DMA_ENABLE (R116). -/
def execDmaEnable (n : Fin 8) (dma : Bool) (s : State) : Result :=
  .next (s.whenAlive (·.writeStreamCtrl n false false dma))

/-- A write to COUNTS sets both counts to 0 (R126). -/
def State.clearCounts (s : State) (n : Fin 8) : State :=
  s.setStream n { s.stream n with overruns := 0, underruns := 0 }

/-- COUNTS_CLEAR (R126). -/
def execCountsClear (n : Fin 8) (s : State) : Result := .next (s.whenAlive (·.clearCounts n))

end Sys2Proof.Machine
end

