-- ==== Sys2Proof/Machine/StreamFrame.lean ====
section
/-! DEFINITION. What a stream does at a frame start and at a frame end: live sets, releases, deliveries (R120 to R125). -/
namespace Sys2Proof.Machine

/-- What one stream does at a frame boundary: its new context, the gap records it makes in order, whether it
raises XRUN[n], and the playback slots it gives the frame. -/
structure StreamMove where
  stream : Stream
  gaps : List GapRecord
  xrun : Bool
  drives : List Drive
  deriving DecidableEq, Repr

/-- The stream as it stands, with nothing made. -/
def StreamMove.still (st : Stream) : StreamMove := { stream := st, gaps := [], xrun := false, drives := [] }

/-- The slots of a live set with their records, in lane order (R120). -/
def groupOf (m : SlotTable) (live : List (Fin 32)) : List (Fin 32 × SlotRecord) :=
  laneNumbers.flatMap fun l =>
    live.filterMap fun k =>
      match m[k] with
      | some r => if r.lane = l then some (k, r) else none
      | none => none

/-- The live set of an enabled stream fixed for frame `f`, with a LANES_CHANGED record where it differs (R120). -/
def fixLive (f : FrameNo) (m : SlotTable) (nd : Directory) (n : Fin 8) (st : Stream) : StreamMove :=
  if st.enabled = true then
    { stream := { st with live := liveSlots m nd n, sinceStart := true }
      gaps := if liveSlots m nd n = st.live then []
        else [{ stream := n, kind := .lanesChanged, frame := f, index := st.counter
                lanes := some (liveSlots m nd n).length }]
      xrun := false
      drives := [] }
  else .still st

/-- A live lane's slot carrying `v` in this frame (R19). -/
def driveOf (p : Fin 32 × SlotRecord) (v : Sample) : Drive :=
  { slot := p.1, start := p.2.start, width := p.2.width, value := v }

/-- The fill value of a lane (R125). -/
def Stream.fillValue (st : Stream) (lane : Fin 8) : Sample :=
  match st.fillMode with
  | .zero => 0
  | .hold => st.hold[lane]

/-- Each live lane carrying its fill value (R125). -/
def Stream.fillDrives (st : Stream) (g : List (Fin 32 × SlotRecord)) : List Drive :=
  g.map fun p => driveOf p (st.fillValue p.2.lane)

/-- The hold values after a release: each lane of the group holds the sample sent for it (R125). -/
def heldAfter (hold : Vector Sample 8) (g : List (Fin 32 × SlotRecord)) (samples : List Sample) : Vector Sample 8 :=
  (g.zip samples).foldl (fun h p => upd h p.1.2.lane p.2) hold

/-- A whole group released from the head of the queue (R123, R124). -/
def Stream.release (st : Stream) (g : List (Fin 32 × SlotRecord)) : StreamMove :=
  { stream := ({ st with
      state := .running, queue := st.queue.drop g.length, counter := st.counter + BitVec.ofNat 32 g.length
      hold := heldAfter st.hold g (st.queue.take g.length), xrun := false }).judged
    gaps := []
    xrun := false
    drives := (g.zip (st.queue.take g.length)).map fun p => driveOf p.1 p.2 }

/-- An underrun at frame `f`: nothing leaves the queue, every live lane carries its fill value, the count rises,
XRUN[n] is raised, and the first frame of a run makes a record (R124). -/
def Stream.underrun (st : Stream) (f : FrameNo) (n : Fin 8) (g : List (Fin 32 × SlotRecord)) : StreamMove :=
  { stream := { st with underruns := satInc st.underruns, xrun := true }
    gaps := if st.xrun = true then []
      else [{ stream := n, kind := .underrun, frame := f, index := st.counter, lanes := none }]
    xrun := true
    drives := st.fillDrives g }

/-- A PRIMING stream judged for release (R123). -/
def Stream.primingStart (st : Stream) (g : List (Fin 32 × SlotRecord)) : StreamMove :=
  if st.effective st.startLevel ≤ st.fill ∧ g.length ≤ st.fill then st.release g
  else { StreamMove.still st with drives := st.fillDrives g }

/-- A RUNNING playback stream at frame start `f` (R124). -/
def Stream.runningStart (st : Stream) (f : FrameNo) (n : Fin 8) (g : List (Fin 32 × SlotRecord)) : StreamMove :=
  if g.length = 0 then .still st
  else if g.length ≤ st.fill then st.release g
  else st.underrun f n g

/-- The release of a stream at frame start `f`, after its live set is fixed (R123, R124). -/
def Stream.frameRelease (st : Stream) (f : FrameNo) (m : SlotTable) (n : Fin 8) : StreamMove :=
  match st.dir with
  | .capture => .still st
  | .playback =>
    match st.state with
    | .disabled => .still st
    | .priming => st.primingStart (groupOf m st.live)
    | .running => st.runningStart f n (groupOf m st.live)

/-- What a stream does at frame start `f`: its live set, then its release; the records in that order (R120, R123,
R124, R128). -/
def frameStartMove (f : FrameNo) (m : SlotTable) (nd : Directory) (n : Fin 8) (st : Stream) : StreamMove :=
  let a := fixLive f m nd n st
  let b := a.stream.frameRelease f m n
  { b with gaps := a.gaps ++ b.gaps }

/-- The w bits of a slot as read from the payload; a position nobody drove reads 1 (R2, R19). -/
def slotBits (payload : List Bool) (r : SlotRecord) : List Bool :=
  (List.range r.width.bits).map fun i => payload.getD (r.start.toNat + i - Config.payloadStart) true

/-- The sample a capture slot carries (R19). -/
def slotSample (payload : List Bool) (r : SlotRecord) : Sample := numberOf (slotBits payload r)

/-- The samples of a group, in lane order (R121). -/
def groupSamples (payload : List Bool) (g : List (Fin 32 × SlotRecord)) : List Sample :=
  g.map fun p => slotSample payload p.2

/-- A whole group delivered at the tail of the queue (R121). -/
def Stream.deliver (st : Stream) (samples : List Sample) : StreamMove :=
  .still ({ st with
    queue := st.queue ++ samples, counter := st.counter + BitVec.ofNat 32 samples.length, xrun := false }).judged

/-- An overrun at frame end `f`: the group is dropped whole (R122). -/
def Stream.overrun (st : Stream) (f : FrameNo) (n : Fin 8) : StreamMove :=
  { stream := { st with overruns := satInc st.overruns, xrun := true }
    gaps := if st.xrun = true then []
      else [{ stream := n, kind := .overrun, frame := f, index := st.counter, lanes := none }]
    xrun := true
    drives := [] }

/-- What a stream does at frame end `f` (R121, R122). -/
def frameEndMove (f : FrameNo) (m : SlotTable) (payload : List Bool) (n : Fin 8) (st : Stream) : StreamMove :=
  match st.dir with
  | .playback => .still st
  | .capture =>
    if (st.enabled && st.sinceStart) = true then
      let g := groupOf m st.live
      if g.length = 0 then .still st
      else if g.length ≤ st.freeCount then st.deliver (groupSamples payload g)
      else st.overrun f n
    else .still st

/-- A stream's move made: its context, its gap records in order, XRUN[n], its playback slots. -/
def State.applyMove (s : State) (n : Fin 8) (mv : StreamMove) : State :=
  let s1 := s.setStream n mv.stream
  let s2 := if mv.xrun = true then s1.raiseXrun n else s1
  let s3 := mv.gaps.foldl State.recordGap s2
  s3.setSu { s3.su with drives := s3.su.drives ++ mv.drives }

/-- Every stream's part of a frame start, in ascending stream number (R120, R128). -/
def State.startStreams (s : State) : State :=
  streamNumbers.foldl (fun t n => t.applyMove n (frameStartMove t.fe.frameNo t.sm.active t.nd n (t.stream n))) s

/-- Every stream's part of a frame end, in ascending stream number (R121, R128). -/
def State.endStreams (s : State) (payload : List Bool) : State :=
  streamNumbers.foldl (fun t n => t.applyMove n (frameEndMove t.fe.frameNo t.sm.active payload n (t.stream n))) s

end Sys2Proof.Machine
end

