-- ==== Sys2Proof/Machine/Frame.lean ====
section
/-! DEFINITION. The frame's time events: frame start with formation, the read-back comparison, frame end with the
drain, and the rows that name a case of them (R23, R26, R29, R31, R32, R80, R104, R121). -/
namespace Sys2Proof.Machine

/-! ### Frame start -/

/-- The next frame begins: the frame number advances, nothing of the frame has been sent yet (R1, R23). -/
def State.nextFrame (s : State) : State :=
  { s with
    fe := { s.fe with frameNo := s.fe.frameNo + 1, pos := .started }
    cx := { s.cx with field := none }
    su := { s.su with drives := [] } }

/-- A frame start in SYNCING: one more sync frame has ended, and the sixteenth makes the link UP with LINK_UP
raised (R26). -/
def State.countSync (s : State) : State :=
  let t := s.setFe { s.fe with syncCount := s.fe.syncCount + 1 }
  if Config.syncFrames ≤ s.fe.syncCount + 1 then (t.setLink .up).raise .linkUp else t

/-- The switch frame of a commit in SWITCHING is the frame now starting (R80 step 1). -/
def State.switchDue (s : State) : Bool :=
  decide (s.ce.phase = .switching) && decide (s.ce.switchFrame = some s.fe.frameNo)

/-- Revocation: the records whose owner is READY or PARKED (R80 step 2, R81). -/
def revoke (m : SlotTable) (nd : Directory) : SlotTable :=
  mapTable (fun o => match o with
    | some r => if nd[r.owner].state.keepsSlots = true then some r else none
    | none => none) m

/-- The map the switch step leaves: the pending map at the switch frame (R80 step 1). -/
def State.switchedMap (s : State) : SlotTable :=
  if s.switchDue = true then s.ce.pending.getD s.sm.active else s.sm.active

/-- The map in force for the frame now starting (R80). -/
def State.formedMap (s : State) : SlotTable := revoke s.switchedMap s.nd

/-- The Slot Map after formation: the generation rises where the map differs (R80 step 3, R82). -/
def State.formedSlotMap (s : State) : SlotMap :=
  { active := s.formedMap
    generation := if s.formedMap = s.sm.active then s.sm.generation else s.sm.generation + 1 }

/-- The result record of an applied commit (R104, R106). -/
def CommitResult.applied (t : FrameNo) (generation : BitVec 16) : CommitResult :=
  { CommitResult.blank with
    mode := some .apply, outcome := .applied, switchFrame := some t, generation := some generation }

/-- The Commit Engine completes at the formation that installs its map (R104). -/
def State.completeSwitch (s : State) : State :=
  ((s.setCl { s.cl with list := [] }).setCe { s.ce with
    phase := .idle, pending := none, switchFrame := none
    result := .applied s.fe.frameNo s.sm.generation }).raise .commitDone

/-- Formation of the map in force (R80), with the completion of a commit whose switch frame this is (R104). -/
def State.formMap (s : State) : State :=
  let t := s.setSm s.formedSlotMap
  if s.switchDue = true then t.completeSwitch else t

/-- The work of a frame start of UP or DRAINING: formation, live sets and releases, the command field (R37, R80,
R120, R123, R124). -/
def State.workFrame (s : State) : State :=
  let t := s.formMap
  (if t.fe.servesPayload = true then t.startStreams else t).settleField

/-- A frame start while frames are sent (R23, R26, R80). -/
def State.startFrame (s : State) : State :=
  let t := s.nextFrame
  match t.fe.link with
  | .syncing =>
    let u := t.countSync
    if u.fe.link = .up then u.workFrame else u
  | .up => t.workFrame
  | .draining => t.workFrame
  | .down => s
  | .fault => s

/-- FRAME_START (R80). -/
def execFrameStart (s : State) : Result := .next (if s.fe.running = true then s.startFrame else s)

/-- SYNC_COMPLETE: the frame start after the sixteenth sync frame (R26). -/
def execSyncComplete (s : State) : Result :=
  .next (if s.fe.link = .syncing ∧ Config.syncFrames ≤ s.fe.syncCount + 1 then s.startFrame else s)

/-- SWITCH_INSTALL: the frame start of the switch frame T (R104). -/
def execSwitchInstall (s : State) : Result :=
  .next (if (s.fe.link = .up ∨ s.fe.link = .draining) ∧ s.ce.phase = .switching ∧
    s.ce.switchFrame = some (s.fe.frameNo + 1) then s.startFrame else s)

/-! ### The read-back comparison -/

/-- The 24 bits the hub drives at the head of a frame: sync pattern, frame number (R3). -/
def frameHead (f : FrameNo) : BitVec 24 := Config.syncPattern ++ f

/-- A contention frame: the counter and the run rise, and the third in a row enters FAULT at once (R31, R32). -/
def State.contention (s : State) : State :=
  let t := s.setFe { s.fe with
    contentionCount := satInc s.fe.contentionCount, contentionRun := s.fe.contentionRun + 1, pos := .compared }
  if Config.contentionLimit ≤ s.fe.contentionRun + 1 then t.enterFault else t

/-- A clean frame: the run is set to 0 (R31). -/
def State.cleanFrame (s : State) : State := s.setFe { s.fe with contentionRun := 0, pos := .compared }

/-- READBACK_COMPARISON, once a frame (R3, R31). -/
def execReadbackComparison (line : BitVec 24) (s : State) : Result :=
  .next (if s.fe.before .compared = true then
    if line = frameHead s.fe.frameNo then s.cleanFrame else s.contention
  else s)

/-- CONTENTION_FAULT: the contention frame that brings the run to 3 (R32). -/
def execContentionFault (s : State) : Result :=
  .next (if s.fe.before .compared = true ∧ Config.contentionLimit ≤ s.fe.contentionRun + 1 then s.contention else s)

/-! ### Frame end -/

/-- The drain at a frame end of DRAINING (R29). -/
def State.drainStep (s : State) : State :=
  if s.fe.drainHeld = true then
    if Config.quietFrames ≤ s.fe.quietCount + 1 then s.enterDown
    else s.setFe { s.fe with quietCount := s.fe.quietCount + 1 }
  else if s.drainCondition = true then s.setFe { s.fe with drainHeld := true, quietCount := 0 }
  else s

/-- A frame end: groups delivered, then the drain judged (R29, R121). -/
def State.endFrame (s : State) (payload : List Bool) : State :=
  let t := s.fieldSent
  let u := t.setFe { t.fe with pos := .ended }
  let v := if u.fe.servesPayload = true then u.endStreams payload else u
  if v.fe.link = .draining then v.drainStep else v

/-- FRAME_END, once a frame (R121). -/
def execFrameEnd (payload : List Bool) (s : State) : Result :=
  .next (if s.fe.before .ended = true then s.endFrame payload else s)

/-- QUIET_FRAMES_END: the frame end of the second quiet frame (R29). -/
def execQuietFramesEnd (payload : List Bool) (s : State) : Result :=
  .next (if s.fe.before .ended = true ∧ s.fe.link = .draining ∧ s.fe.drainHeld = true ∧
    Config.quietFrames ≤ s.fe.quietCount + 1 then s.endFrame payload else s)

end Sys2Proof.Machine
end

