-- ==== Sys2Proof/Machine/Reset.lean ====
section
/-! DEFINITION. The reset family: RESET_N, REFCLK_STOP, SOFT_RESET, RESET_N_RELEASE, REFCLK_RESTART. -/
namespace Sys2Proof.Machine

/-- RESET_N: a device reset, and the part is held while the pin stays low (R35, R163). -/
def execResetN (s : State) : Result := .next ({ s with resetN := false }).deviceReset

/-- REFCLK_STOP: a device reset, and the part is held while the clock is stopped (R163). -/
def execRefclkStop (s : State) : Result := .next ({ s with refclk := false }).deviceReset

/-- RESET_N_RELEASE: the pin rises and the part stands at its reset values with the link DOWN (R35). A pin that
is high already does not rise. -/
def execResetNRelease (s : State) : Result :=
  .next (if s.resetN = true then s else ({ s with resetN := true }).deviceReset)

/-- REFCLK_RESTART: the clock runs again and the part stands at its reset values with the link DOWN (R163). A
clock that runs already does not start. -/
def execRefclkRestart (s : State) : Result :=
  .next (if s.refclk = true then s else ({ s with refclk := true }).deviceReset)

/-- The action SOFT_RESET of CONTROL: a device reset as soon as it is taken (R35). -/
def State.softReset (s : State) : State := s.deviceReset

/-- SOFT_RESET (R24, R35). -/
def execSoftReset (s : State) : Result := .next (s.whenAlive State.softReset)

end Sys2Proof.Machine
end

