-- ==== Sys2Proof/Machine/LinkControl.lean ====
section
/-! DEFINITION. The host's writes to the Frame Engine and the Control Exchange: CONTROL's link actions, LINK_CFG,
XCHG_CFG and LINK_ERRORS. -/
namespace Sys2Proof.Machine

/-- LINK_START in DOWN begins frame 0 of a session; in any other link state it is refused (R25). -/
def State.linkStart (s : State) : State :=
  if s.fe.link = .down then
    { s with
      fe := { s.fe with
        link := .syncing, session := s.fe.cfg, frameNo := 0, contentionRun := 0, syncCount := 0, quietCount := 0
        drainHeld := false, drainFromSync := false, pos := .started }
      cx := { s.cx with field := none } }
  else s.accessFault .stateRefused Reg.control.offset

/-- LINK_START (R25). -/
def execLinkStart (s : State) : Result := .next (s.whenAlive State.linkStart)

/-- A staging command is in progress (R107). -/
def State.stagingInProgress (s : State) : Bool :=
  match s.cx.inFlight with
  | some r => decide (r.source = .commit)
  | none => false

/-- What LINK_STOP does to the commit at the moment the link becomes DRAINING (R28, R107). -/
def State.stopCommit (s : State) : State :=
  match s.ce.phase with
  | .pending => s.abortLinkStop 0
  | .staging => if s.stagingInProgress = true then s else s.abortLinkStop s.ce.acked
  | .idle => s
  | .switching => s
  | .cancelling => s

/-- The change to DRAINING; `fromSync` says it comes from SYNCING (R27, R29). -/
def State.beginDrain (s : State) (fromSync : Bool) : State :=
  s.setFe { s.fe with link := .draining, quietCount := 0, drainHeld := false, drainFromSync := fromSync }

/-- LINK_STOP, by link state (R27). -/
def State.linkStop (s : State) : State :=
  match s.fe.link with
  | .syncing => (s.beginDrain true).stopCommit
  | .up => (s.beginDrain false).stopCommit
  | .draining => s
  | .down => s.accessFault .stateRefused Reg.control.offset
  | .fault => s.accessFault .stateRefused Reg.control.offset

/-- LINK_STOP (R27). -/
def execLinkStop (s : State) : Result := .next (s.whenAlive State.linkStop)

/-- FAULT_CLEAR in FAULT enters DOWN; elsewhere it has no effect and records no fault (R30). -/
def State.faultClear (s : State) : State := if s.fe.link = .fault then s.enterDown else s

/-- FAULT_CLEAR (R30). -/
def execFaultClear (s : State) : Result := .next (s.whenAlive State.faultClear)

/-- A write to CONTROL is taken as at most one action (R24). -/
def State.writeControl (s : State) (w : Word) : State :=
  match w.getLsbD 0, w.getLsbD 1, w.getLsbD 2, w.getLsbD 3 with
  | false, false, false, false => s
  | true, false, false, false => s.softReset
  | false, true, false, false => s.linkStart
  | false, false, true, false => s.linkStop
  | false, false, false, true => s.faultClear
  | _, _, _, _ => s.accessFault .stateRefused Reg.control.offset

/-- A write to LINK_CFG: as a whole in DOWN when every field is legal (R22). -/
def State.writeLinkCfg (s : State) (w : Word) : State :=
  if s.fe.link = .down then
    if (linkCfgOf w).legal = true then s.setFe { s.fe with cfg := linkCfgOf w }
    else s.accessFault .fieldInvalid Reg.linkCfg.offset
  else s.accessFault .stateLocked Reg.linkCfg.offset

/-- LINK_CFG (R22). -/
def execLinkCfg (w : Word) (s : State) : Result := .next (s.whenAlive (·.writeLinkCfg w))

/-- A write to XCHG_CFG: as a whole in DOWN when all four fields are in range (R22, R54). -/
def State.writeXchgCfg (s : State) (w : Word) : State :=
  if s.fe.link = .down then
    if (xchgCfgOf w).legal = true then s.setCx { s.cx with cfg := xchgCfgOf w }
    else s.accessFault .fieldInvalid Reg.xchgCfg.offset
  else s.accessFault .stateLocked Reg.xchgCfg.offset

/-- XCHG_CFG (R54). -/
def execXchgCfg (w : Word) (s : State) : Result := .next (s.whenAlive (·.writeXchgCfg w))

/-- Any write to LINK_ERRORS sets the contention and garble counters to 0 (R31, R44). -/
def State.clearLinkErrors (s : State) : State :=
  { s with fe := { s.fe with contentionCount := 0 }, cx := { s.cx with garble := 0 } }

/-- LINK_ERRORS_CLEAR (R31). -/
def execLinkErrorsClear (s : State) : Result := .next (s.whenAlive State.clearLinkErrors)

end Sys2Proof.Machine
end

