-- ==== Sys2Proof/Machine/RequestControl.lean ====
section
/-! DEFINITION. The host's writes to the Request Queue: REQ_SUBMIT, REQ_FLUSH, CPL_POP. -/
namespace Sys2Proof.Machine

/-- A submission: QUEUE_FULL, FIELD_INVALID, or placed at the tail (R142). -/
def State.submitRequest (s : State) : State :=
  if Config.requestQueueSize ≤ s.rq.queue.length then s.accessFault .queueFull Reg.reqSubmit.offset
  else
    match stagedRequest s.rq.stage0 s.rq.stage1 with
    | none => s.accessFault .fieldInvalid Reg.reqSubmit.offset
    | some q => s.setRq { s.rq with queue := s.rq.queue ++ [q] }

/-- REQ_SUBMIT (R142). -/
def execReqSubmit (s : State) : Result := .next (s.whenAlive State.submitRequest)

/-- The requests a flush leaves: the one in flight (R144). -/
def State.flushKeeps (s : State) : List Request := if s.headInFlight = true then s.rq.queue.take 1 else []

/-- A flush removes every request not in flight and records their number with cause FLUSH (R144). -/
def State.flushRequests (s : State) : State :=
  s.setRq { s.rq with
    queue := s.flushKeeps
    discard := { count := s.rq.queue.length - s.flushKeeps.length, cause := .flush } }

/-- REQ_FLUSH (R144). -/
def execReqFlush (s : State) : Result := .next (s.whenAlive State.flushRequests)

/-- A write to CPL_POP removes the head completion, or records EMPTY_POP (R149). -/
def State.popCompletion (s : State) : State :=
  match s.rq.completions with
  | [] => s.accessFault .emptyPop Reg.cplPop.offset
  | _ :: rest => s.setRq { s.rq with completions := rest }

/-- CPL_POP (R149). -/
def execCplPop (s : State) : Result := .next (s.whenAlive State.popCompletion)

end Sys2Proof.Machine
end

