-- ==== Sys2Proof/Machine/SurveyControl.lean ====
section
/-! DEFINITION. The host's write to SURVEY (R69). -/
namespace Sys2Proof.Machine

/-- The result record of a survey just accepted: RUNNING with all four counts 0 (R69). -/
def SurveyResult.started : SurveyResult :=
  { outcome := .running, joined := 0, rejoined := 0, failed := 0, electionFailures := 0 }

/-- SURVEY_START: accepted in UP with no survey running, otherwise refused (R69). -/
def State.surveyStart (s : State) : State :=
  if s.fe.link = .up ∧ s.sv.state.isRunning = false then
    s.setSv { s.sv with state := .seeking, result := SurveyResult.started }
  else s.accessFault .stateRefused Reg.survey.offset

/-- SURVEY_START (R69). -/
def execSurveyStart (s : State) : Result := .next (s.whenAlive State.surveyStart)

end Sys2Proof.Machine
end

