-- ==== Sys2Proof/Machine/HostPort.lean ====
section
/-! DEFINITION. The Host Port: UNMAPPED and REGISTER_WRITE, and where every write of the window goes (R160 to R162). -/
namespace Sys2Proof.Machine

/-- A write to CHG_STAGE0 changes only the staging word (R86). -/
def State.writeChgStage0 (s : State) (w : Word) : State := s.setCl { s.cl with stage0 := w &&& chgStage0Mask }

/-- A write to CHG_STAGE1 (R86). -/
def State.writeChgStage1 (s : State) (w : Word) : State := s.setCl { s.cl with stage1 := w &&& chgStage1Mask }

/-- A write to REQ_STAGE0 changes only the staging word (R141). -/
def State.writeReqStage0 (s : State) (w : Word) : State := s.setRq { s.rq with stage0 := w &&& reqStage0Mask }

/-- A write to REQ_STAGE1 (R141). -/
def State.writeReqStage1 (s : State) (w : Word) : State := s.setRq { s.rq with stage1 := w &&& reqStage1Mask }

/-- A write to SURVEY: SURVEY_START where the start bit is 1, otherwise no effect and no fault (R69). -/
def State.writeSurvey (s : State) (w : Word) : State := if w.getLsbD 0 = true then s.surveyStart else s

/-- A write to a read-only register is ignored with cause READ_ONLY (R161). -/
def State.refuseReadOnly (s : State) (r : Reg) : State := s.accessFault .readOnly r.offset

/-- A write of a word to a register: taken by its owning rule, or refused as its access type says (R161). -/
def State.writeReg (s : State) (r : Reg) (w : Word) : State :=
  match r with
  | .control => s.writeControl w
  | .linkCfg => s.writeLinkCfg w
  | .xchgCfg => s.writeXchgCfg w
  | .linkErrors => s.clearLinkErrors
  | .survey => s.writeSurvey w
  | .commit => s.writeCommit (commitModeOf w)
  | .evtEnable => s.writeEvtEnable w
  | .evtClear => s.writeEvtClear w
  | .sevtEnable => s.writeSevtEnable w
  | .sevtClear => s.writeSevtClear w
  | .faultRecord => s.clearFaultRecord
  | .gapPop => s.popGap
  | .reqStage0 => s.writeReqStage0 w
  | .reqStage1 => s.writeReqStage1 w
  | .reqSubmit => s.submitRequest
  | .reqStatusFlush => s.flushRequests
  | .cplPop => s.popCompletion
  | .chgStage0 => s.writeChgStage0 w
  | .chgStage1 => s.writeChgStage1 w
  | .chgAppend => s.appendChange
  | .chgClear => s.clearChanges
  | .streamCfg n => s.writeStreamCfg n w
  | .streamLevels n => s.writeStreamLevels n w
  | .streamCtrl n => s.writeStreamCtrl n (w.getLsbD 0) (w.getLsbD 1) (w.getLsbD 4)
  | .streamCounts n => s.clearCounts n
  | .dataPort n => s.writePort n w
  | .id => s.refuseReadOnly r
  | .status => s.refuseReadOnly r
  | .frameNumber => s.refuseReadOnly r
  | .mapGen => s.refuseReadOnly r
  | .surveyResult => s.refuseReadOnly r
  | .commitResult0 => s.refuseReadOnly r
  | .commitResult1 => s.refuseReadOnly r
  | .evtRaw => s.refuseReadOnly r
  | .evtPending => s.refuseReadOnly r
  | .sevtRaw => s.refuseReadOnly r
  | .sevtPending => s.refuseReadOnly r
  | .faultCount => s.refuseReadOnly r
  | .gapHead0 => s.refuseReadOnly r
  | .gapHead1 => s.refuseReadOnly r
  | .cplHead0 => s.refuseReadOnly r
  | .cplHead1 => s.refuseReadOnly r
  | .chgStatus => s.refuseReadOnly r
  | .directory _ _ => s.refuseReadOnly r
  | .slotView _ _ => s.refuseReadOnly r
  | .changeView _ _ => s.refuseReadOnly r
  | .streamStatus _ => s.refuseReadOnly r
  | .streamSamples _ => s.refuseReadOnly r

/-- A write to the window: to the register of its word, or refused UNMAPPED (R160). -/
def State.hostWrite (s : State) (o : WinOffset) (w : Word) : State :=
  match decodeOffset o with
  | some r => s.writeReg r w
  | none => s.accessFault .unmapped (wordOffset o)

/-- REGISTER_WRITE: the word is the carried bytes, 0 elsewhere (R160, R161). -/
def execRegisterWrite (offset : WinOffset) (value : Word) (lanes : BitVec 4) (s : State) : Result :=
  .next (s.whenAlive (·.hostWrite offset (carriedWord value lanes)))

/-- An access to an unmapped word: a fault UNMAPPED, a read returning 0 (R160). -/
def State.accessUnmapped (s : State) (o : WinOffset) (access : Access) : State :=
  match access with
  | .read => (s.setReadData 0).accessFault .unmapped (wordOffset o)
  | .write => s.accessFault .unmapped (wordOffset o)

/-- An access to the window while the part is held: a read returns 0, a write is ignored (R160). -/
def State.accessHeld (s : State) (access : Access) : State :=
  match access with
  | .read => s.setReadData 0
  | .write => s

/-- UNMAPPED (R160). An access to a word that names a register is no access of this row, and nothing changes. -/
def execUnmapped (offset : WinOffset) (access : Access) (s : State) : Result :=
  .next (match decodeOffset offset with
    | some _ => s
    | none => if s.held = true then s.accessHeld access else s.accessUnmapped offset access)

end Sys2Proof.Machine
end

