-- ==== Sys2Proof/Machine/Outcomes.lean ====
section
/-! DEFINITION. What each source does with the outcome of its command (R60, R61, R63, R64, R71 to R76, R101, R102, R107,
R147). -/
namespace Sys2Proof.Machine

/-- The outcome of a command with an answer to judge (R41 to R43). -/
inductive CmdOutcome where
  | ack
  | refuse
  | noAnswer
  | timeout
  deriving DecidableEq, Repr

/-! ### Commit Engine -/

/-- The abort cause of a staging command's outcome (R102). -/
def CmdOutcome.cause : CmdOutcome → Reason
  | .refuse => .nodeRefused
  | .timeout => .timeout
  | .noAnswer => .noAnswer
  | .ack => .noAnswer

/-- A staging command acknowledged: it leaves the list, the count rises, and an empty list makes the phase
SWITCHING (R101). -/
def State.stagingAck (s : State) : State :=
  match s.ce.staging.tail with
  | [] => s.setCe { s.ce with staging := [], acked := s.ce.acked + 1, phase := .switching, copies := 0 }
  | c :: rest => s.setCe { s.ce with staging := c :: rest, acked := s.ce.acked + 1 }

/-- A staging command that failed: the record reads ABORTED with cause and node, and the phase is CANCELLING (R102). -/
def State.stagingFailed (s : State) (a : NodeAddr) (o : CmdOutcome) : State :=
  s.setCe { s.ce with
    phase := .cancelling, pending := none, staging := [], copies := 0
    result := s.ce.result.abort o.cause (some a) s.ce.acked }

/-- The outcome of a staging command; in DRAINING it ends the commit ABORTED with LINK_STOP (R101, R102, R107). -/
def State.commitOutcome (s : State) (t : Target) (o : CmdOutcome) : State :=
  if s.fe.link = .draining then s.abortLinkStop (if o = .ack then s.ce.acked + 1 else s.ce.acked)
  else
    match o, t with
    | .ack, _ => s.stagingAck
    | o, .node a => s.stagingFailed a o
    | _, .unbound => s
    | _, .broadcast => s

/-! ### Survey Engine -/

/-- An outcome that would end the survey: it does in UP; in DRAINING the survey goes on in SEEKING (R75, R76). -/
def State.surveyWouldEnd (s : State) (o : SurveyOutcome) : State :=
  if s.fe.link = .draining then s.setSv { s.sv with state := .seeking, binding := none } else s.endSurvey o

/-- An entry in READY, PARKED or LOST holds the identity (R72). -/
def Entry.rejoins (e : Entry) (id : Identity) : Bool :=
  decide (e.identity = some id) &&
    (match e.state with
    | .ready => true
    | .parked => true
    | .lost => true
    | .free => false
    | .bound => false)

/-- The binding chosen for an elected identity: a rejoin at its own entry, else the lowest FREE address (R72). -/
def State.chooseBinding (s : State) (id : Identity) : Option Binding :=
  match addresses.find? (fun a => (s.entry a).rejoins id) with
  | some a => some { identity := id, target := a, rejoin := true, capA := none }
  | none =>
    match addresses.find? (fun a => decide ((s.entry a).state = .free)) with
    | some a => some { identity := id, target := a, rejoin := false, capA := none }
    | none => none

/-- The outcome of an IDENTIFY: no candidate, or the identity read (R71, R72). -/
def State.identityRead (s : State) (field : BitVec 32) : State :=
  if field = BitVec.allOnes 32 then s.surveyWouldEnd .complete
  else
    match s.chooseBinding field with
    | some b => s.setSv { s.sv with state := .elected, binding := some b }
    | none => s.surveyWouldEnd .directoryFull

/-- The values of an entry just BOUND (R58). -/
def boundEntry (id : Identity) (f : FrameNo) : Entry :=
  { state := .bound, identity := some id, caps := none, seq := false, resync := false, miss := 0, lastHeard := f }

/-- An acknowledged ASSIGN: the target entry is BOUND (R58, R59, R73). -/
def State.bindEntry (s : State) : State :=
  match s.sv.binding with
  | some b => (s.setEntry b.target (boundEntry b.identity s.fe.frameNo)).setSv { s.sv with state := .binding }
  | none => s

/-- A failing ASSIGN: the binding record is discarded and the election failures rise; the third ends the survey
(R73). -/
def State.electionFailure (s : State) : State :=
  let t := s.setSv { s.sv with
    state := .seeking, binding := none
    result := { s.sv.result with electionFailures := s.sv.result.electionFailures + 1 } }
  if Config.electionLimit ≤ s.sv.result.electionFailures + 1 then t.surveyWouldEnd .electionFailed else t

/-- Capability A read (R74). -/
def State.holdCapA (s : State) (data : BitVec 16) : State :=
  s.setSv { s.sv with binding := s.sv.binding.map fun b => { b with capA := some data } }

/-- The result record with one more join or rejoin (R60). -/
def SurveyResult.joinedOne (r : SurveyResult) (rejoin : Bool) : SurveyResult :=
  if rejoin = true then { r with rejoined := satInc r.rejoined } else { r with joined := satInc r.joined }

/-- Both capabilities read: the entry is READY with both values and the join is counted (R60, R74). -/
def State.makeReady (s : State) (a : NodeAddr) (data : BitVec 16) : State :=
  match s.sv.binding with
  | some b =>
    ((s.setEntry a { s.entry a with state := .ready, caps := some { a := b.capA.getD 0, b := data } }).setSv
      { state := .seeking, result := s.sv.result.joinedOne b.rejoin, binding := none }).raise
        (if b.rejoin = true then .nodeRejoined else .nodeJoined)
  | none => s

/-- The entry whose binding failed: LOST with NODE_LOST raised, unless the loss limit has made it LOST already (R61). -/
def State.loseBinding (s : State) (a : NodeAddr) : State :=
  if (s.entry a).state = .lost then s else (s.setEntryState a .lost).raise .nodeLost

/-- A capability read that failed: the binding ends LOST and the failed count rises (R61, R74). -/
def State.bindingFailed (s : State) (a : NodeAddr) : State :=
  (s.loseBinding a).setSv
    { state := .seeking, result := { s.sv.result with failed := satInc s.sv.result.failed }, binding := none }

/-- The outcome of a survey command with an answer to judge (R73, R74). -/
def State.surveyOutcome (s : State) (r : InFlight) (o : CmdOutcome) (data : BitVec 16) : State :=
  match r.cmd, r.target with
  | .assign _, _ => if o = .ack then s.bindEntry else s.electionFailure
  | .read reg, .node a =>
    if o = .ack then if reg = 0x00 then s.holdCapA data else s.makeReady a data
    else s.bindingFailed a
  | _, _ => s

/-! ### Request Queue -/

/-- The completion outcome of an outcome handed by the exchange (R147). -/
def CmdOutcome.completion : CmdOutcome → CplOutcome
  | .ack => .done
  | .refuse => .refused
  | .noAnswer => .noAnswer
  | .timeout => .timeout

/-- The data of a completion: the value of a NODE_READ or PING done, the reason of a refusal (R147, R148). -/
def completionData (k : ReqKind) (o : CmdOutcome) (data : BitVec 16) : Option (BitVec 16) :=
  match o with
  | .ack =>
    match k with
    | .nodeRead => some data
    | .ping => some data
    | .nodeWrite => none
    | .park => none
    | .resume => none
    | .release => none
  | .refuse => some data
  | .noAnswer => none
  | .timeout => none

/-- The move of the entry by the outcome of a PARK, RESUME or RELEASE (R63, R64, R147). -/
def State.moveEntry (s : State) (q : Request) (o : CmdOutcome) : State :=
  match q.op with
  | .park => if o = .ack then s.setEntryState q.addr .parked else s
  | .resume => if o = .ack then s.setEntryState q.addr .ready else s
  | .release => s.freeEntry q.addr
  | .nodeRead _ => s
  | .nodeWrite _ _ => s
  | .ping => s

/-- The outcome of a host request's command: the entry moved, the completion written, the request gone (R147). -/
def State.requestOutcome (s : State) (o : CmdOutcome) (data : BitVec 16) (attempts : Nat) : State :=
  match s.rq.queue with
  | q :: _ => (s.moveEntry q o).complete q o.completion (completionData q.op.kind o data) attempts
  | [] => s

/-! ### The hand-over -/

/-- The outcome handed to the source, the in-flight record emptied (R41). Keepalive hands its outcomes to no one
(R52). -/
def State.handOver (s : State) (r : InFlight) (o : CmdOutcome) (data : BitVec 16) : State :=
  let t := s.setCx { s.cx with inFlight := none }
  match r.source with
  | .commit => t.commitOutcome r.target o
  | .survey => t.surveyOutcome r o data
  | .request => t.requestOutcome o data r.attempt
  | .keepalive => t

/-- The outcome of the current stage. A resynchronising PING acknowledged leads on to the command it precedes;
every other outcome is the command's (R49). -/
def State.concludeStage (s : State) (r : InFlight) (o : CmdOutcome) (data : BitVec 16) : State :=
  if r.stage = .resyncPing ∧ o = .ack then
    s.setCx { s.cx with inFlight := some { r with stage := .command, attempt := 1, waits := 0 } }
  else s.handOver r o data

end Sys2Proof.Machine
end

