-- ==== Sys2Proof/Machine/Response.lean ====
section
/-! DEFINITION. Response arrival: the judgement of the response field, what it does to the command in progress and to
the directory, and the rows that name a case of it (R7, R8, R41 to R50, R53). -/
namespace Sys2Proof.Machine

/-- The judgement of a response field (R7). -/
inductive Judgement where
  | noAnswer
  | garbled
  | ack (data : BitVec 16)
  | wait
  | refuse (data : BitVec 16)
  deriving DecidableEq, Repr

/-- Responder address, the most significant four bits (chapter 11.1). -/
def responderOf (field : BitVec 32) : BitVec 4 := field.extractLsb' 28 4

/-- Status: 0 ACK, 1 WAIT, 2 REFUSE, 3 invalid (chapter 11.1). -/
def statusOf (field : BitVec 32) : BitVec 2 := field.extractLsb' 26 2

/-- The 16 data bits (chapter 11.1). -/
def dataOf (field : BitVec 32) : BitVec 16 := field.extractLsb' 8 16

/-- The check read equals the check computed over the first 24 bits (R5, R7). -/
def checkHolds (field : BitVec 32) : Bool := decide (crc8 (field.extractLsb' 8 24) = field.extractLsb' 0 8)

/-- The response judged with an expected responder; `echo` is the pattern a PING expects back (R7, R8). -/
def judge (responder : BitVec 4) (echo : Option (BitVec 8)) (field : BitVec 32) : Judgement :=
  if field = BitVec.allOnes 32 then .noAnswer
  else if checkHolds field = false then .garbled
  else if statusOf field = 3 then .garbled
  else if responderOf field ≠ responder then .garbled
  else if statusOf field = 1 then .wait
  else if statusOf field = 2 then .refuse (dataOf field)
  else match echo with
    | none => .ack (dataOf field)
    | some p => if (dataOf field).setWidth 8 = p then .ack (dataOf field) else .garbled

/-- The expected responder: the target's address, or for ASSIGN the new address (R7). -/
def InFlight.responder (r : InFlight) : BitVec 4 :=
  match r.sending with
  | .assign a => addressBits a
  | _ => r.target.bits

/-- The echo a sending expects: a PING's pattern is the low eight bits of the frame number (R10). -/
def InFlight.echo (r : InFlight) (f : FrameNo) : Option (BitVec 8) :=
  if r.sending = .ping then some (f.setWidth 8) else none

/-- The judgement of a response to the command in progress. -/
def State.judgeFor (s : State) (r : InFlight) (field : BitVec 32) : Judgement :=
  judge r.responder (r.echo s.fe.frameNo) field

/-- What a judged response makes of the command in progress (R41 to R43, R50). -/
inductive AttemptResult where
  | acked (data : BitVec 16)
  | refused (data : BitVec 16)
  | waitRepeat
  | waitLimit
  | retry
  | retriesSpent
  | lossLimit
  deriving DecidableEq, Repr

/-- A WAIT against the wait limit (R42). -/
def XchgCfg.waitResult (c : XchgCfg) (r : InFlight) : AttemptResult :=
  if c.wait.toNat < r.waits + 1 then .waitLimit else .waitRepeat

/-- A failed attempt against the retry limit (R43). -/
def XchgCfg.failResult (c : XchgCfg) (r : InFlight) : AttemptResult :=
  if r.attempt ≤ c.retry.toNat then .retry else .retriesSpent

/-- A missing answer brings the miss count of the target entry to the loss limit (R50). -/
def State.missReachesLimit (s : State) (t : Target) : Bool :=
  match t with
  | .node a => decide (s.cx.cfg.loss.toNat ≤ (s.entry a).miss + 1)
  | .unbound => false
  | .broadcast => false

/-- The result of the attempt the frame carried (R41 to R43, R50). -/
def State.attemptResult (s : State) (r : InFlight) (j : Judgement) : AttemptResult :=
  match j with
  | .ack d => .acked d
  | .refuse d => .refused d
  | .wait => s.cx.cfg.waitResult r
  | .noAnswer => if s.missReachesLimit r.target = true then .lossLimit else s.cx.cfg.failResult r
  | .garbled => s.cx.cfg.failResult r

/-! ### The directory fields -/

/-- A valid response: miss count 0, last-heard frame this frame (R41). -/
def Entry.heard (e : Entry) (f : FrameNo) : Entry := { e with miss := 0, lastHeard := f }

/-- The sequence bit and RESYNC mark after a valid ACK: toggled, or for a PING set to 0 and cleared (R45, R47). -/
def Entry.acked (e : Entry) (isPing : Bool) : Entry :=
  if isPing = true then { e with seq := false, resync := false } else { e with seq := !e.seq }

/-- After a valid REFUSE: toggled, and for a PING marked RESYNC (R45, R47). -/
def Entry.refused (e : Entry) (isPing : Bool) : Entry :=
  { e with seq := !e.seq, resync := if isPing = true then true else e.resync }

/-- One more attempt without an answer, up to the loss limit (R50). -/
def Entry.missed (e : Entry) (loss : BitVec 4) : Entry := { e with miss := min (e.miss + 1) loss.toNat }

/-- The entry the exchange leaves at response arrival, but for the RESYNC mark of an ended command (R41). -/
def Entry.afterResponse (e : Entry) (j : Judgement) (isPing : Bool) (f : FrameNo) (loss : BitVec 4) : Entry :=
  match j with
  | .ack _ => (e.heard f).acked isPing
  | .refuse _ => (e.heard f).refused isPing
  | .wait => e.heard f
  | .noAnswer => e.missed loss
  | .garbled => e

/-- The target's entry updated where the target is a directory address (R41, R53). -/
def State.updateTarget (s : State) (t : Target) (f : Entry → Entry) : State :=
  match t with
  | .node a => s.setEntry a (f (s.entry a))
  | .unbound => s
  | .broadcast => s

/-- The target entry marked RESYNC (R46). -/
def State.markResync (s : State) (t : Target) : State := s.updateTarget t fun e => { e with resync := true }

/-- A BOUND, READY or PARKED entry becomes LOST (R50, R62). -/
def EntryState.canBeLost : EntryState → Bool
  | .bound => true
  | .ready => true
  | .parked => true
  | .free => false
  | .lost => false

/-- The target entry at the loss limit: LOST, with NODE_LOST raised (R50). -/
def State.loseTarget (s : State) (t : Target) : State :=
  match t with
  | .node a => if (s.entry a).state.canBeLost = true then (s.setEntryState a .lost).raise .nodeLost else s
  | .unbound => s
  | .broadcast => s

/-- One more garble (R44). -/
def State.countGarble (s : State) : State := s.setCx { s.cx with garble := satInc s.cx.garble }

/-- The in-flight record replaced. -/
def State.setInFlight (s : State) (r : InFlight) : State := s.setCx { s.cx with inFlight := some r }

/-! ### Response arrival -/

/-- The directory and garble changes of a judgement, made before any outcome is handed over (R41, R44, R53). -/
def State.noteResponse (s : State) (r : InFlight) (j : Judgement) : State :=
  let t := s.updateTarget r.target fun e =>
    e.afterResponse j (decide (r.sending = .ping)) s.fe.frameNo s.cx.cfg.loss
  if j = .garbled then t.countGarble else t

/-- What the result of the attempt does to the command in progress (R42, R43, R46, R49, R50). -/
def State.applyResult (s : State) (r : InFlight) (a : AttemptResult) : State :=
  match a with
  | .acked d => s.concludeStage r .ack d
  | .refused d => s.concludeStage r .refuse d
  | .waitRepeat => s.setInFlight { r with waits := r.waits + 1 }
  | .waitLimit => (s.markResync r.target).concludeStage r .timeout 0
  | .retry => s.setInFlight { r with attempt := r.attempt + 1 }
  | .retriesSpent => (s.markResync r.target).concludeStage r .noAnswer 0
  | .lossLimit => ((s.loseTarget r.target).markResync r.target).concludeStage r .noAnswer 0

/-- A field that is not all ones in a frame that carried IDLE, SWITCH or CANCEL is unsolicited (R44). -/
def State.unsolicited (s : State) (field : BitVec 32) : State :=
  if field = BitVec.allOnes 32 then s else s.countGarble

/-- The response field applied to the command whose attempt the frame carried (R7, R14, R41, R44, R53). -/
def State.applyResponse (s : State) (field : BitVec 32) : State :=
  match s.cx.inFlight with
  | none => s.unsolicited field
  | some r =>
    match r.target, r.sending with
    | .broadcast, _ => s.unsolicited field
    | .unbound, .identify => (s.setCx { s.cx with inFlight := none }).identityRead field
    | _, _ =>
      let j := s.judgeFor r field
      (s.noteResponse r j).applyResult r (s.attemptResult r j)

/-- Response arrival, once a frame: the end of the command field lies before it (R1, R41). -/
def State.respond (s : State) (field : BitVec 32) : State :=
  let t := s.fieldSent
  (t.setFe { t.fe with pos := .answered }).applyResponse field

/-- RESPONSE_ARRIVAL (R41). -/
def execResponseArrival (field : BitVec 32) (s : State) : Result :=
  .next (if s.fe.before .answered = true then s.respond field else s)

/-- The result the response would have for the command in progress, none where it judges none (R41 to R43). -/
def State.expectedResult (s : State) (field : BitVec 32) : Option AttemptResult :=
  match s.cx.inFlight with
  | none => none
  | some r =>
    match r.target, r.sending with
    | .broadcast, _ => none
    | .unbound, .identify => none
    | _, _ => some (s.attemptResult r (s.judgeFor r field))

/-- A response arrival in the case `p` of its result names; in any other case that event does not occur. -/
def State.respondIf (s : State) (field : BitVec 32) (p : AttemptResult → Bool) : State :=
  match s.expectedResult field with
  | some a => if p a = true ∧ s.fe.before .answered = true then s.respond field else s
  | none => s

/-- WAIT_LIMIT_EXCEEDED: a WAIT above the wait limit ends the command TIMEOUT (R42, R46). -/
def execWaitLimitExceeded (field : BitVec 32) (s : State) : Result :=
  .next (s.respondIf field fun a => decide (a = .waitLimit))

/-- The attempt in progress is numbered above the retry limit: a failure of it leaves no retry (R43). -/
def State.onLastAttempt (s : State) : Bool :=
  match s.cx.inFlight with
  | some r => decide (s.cx.cfg.failResult r = .retriesSpent)
  | none => false

/-- RETRIES_SPENT: a failed attempt with no retry left ends the command NO_ANSWER (R43, R46). DESIGN CHOICE (log entry
2): where that attempt is a missing answer that also reaches the loss limit, R43 and R50 both hold; the spec orders the
effects (R50) and does not say which row the moment is, so it is both, and this row carries out that one moment whole, as
LOSS_LIMIT_REACHED does. -/
def execRetriesSpent (field : BitVec 32) (s : State) : Result :=
  .next (s.respondIf field fun a => decide (a = .retriesSpent) || (decide (a = .lossLimit) && s.onLastAttempt))

/-- LOSS_LIMIT_REACHED: a missing answer at the loss limit makes the entry LOST and ends the command (R50). -/
def execLossLimitReached (field : BitVec 32) (s : State) : Result :=
  .next (s.respondIf field fun a => decide (a = .lossLimit))

/-- The result ends a command with an outcome other than ACK. -/
def AttemptResult.fails : AttemptResult → Bool
  | .refused _ => true
  | .waitLimit => true
  | .retriesSpent => true
  | .lossLimit => true
  | .acked _ => false
  | .waitRepeat => false
  | .retry => false

/-- The command in progress is the survey's ASSIGN after two election failures (R73). -/
def State.onLastElection (s : State) : Bool :=
  match s.cx.inFlight with
  | some r =>
    match r.source, r.cmd with
    | .survey, .assign _ => decide (Config.electionLimit ≤ s.sv.result.electionFailures + 1)
    | _, _ => false
  | none => false

/-- ELECTION_FAILED: the response arrival in UP at which the third ASSIGN ends without binding (R73; in DRAINING such
an ASSIGN does not end the survey, R76). -/
def execElectionFailed (field : BitVec 32) (s : State) : Result :=
  .next (if s.fe.link = .up ∧ s.onLastElection = true then s.respondIf field AttemptResult.fails else s)

end Sys2Proof.Machine
end

