-- ==== Sys2Proof/Machine/Dispatch.lean ====
section
/-! DEFINITION. The dispatch of commands to their meanings: one arm per row of the table. -/
namespace Sys2Proof.Machine

def exec (i : Instr) (s : State) : Host.Outcome State Fault Refusal :=
  match i with
  | .resetN => Sys2Proof.Machine.execResetN s
  | .refclkStop => Sys2Proof.Machine.execRefclkStop s
  | .softReset => Sys2Proof.Machine.execSoftReset s
  | .linkStart => Sys2Proof.Machine.execLinkStart s
  | .linkStop => Sys2Proof.Machine.execLinkStop s
  | .faultClear => Sys2Proof.Machine.execFaultClear s
  | .frameStart => Sys2Proof.Machine.execFrameStart s
  | .readbackComparison line => Sys2Proof.Machine.execReadbackComparison line s
  | .contentionFault => Sys2Proof.Machine.execContentionFault s
  | .syncComplete => Sys2Proof.Machine.execSyncComplete s
  | .identify => Sys2Proof.Machine.execIdentify s
  | .assign => Sys2Proof.Machine.execAssign s
  | .ping => Sys2Proof.Machine.execPing s
  | .read => Sys2Proof.Machine.execRead s
  | .write => Sys2Proof.Machine.execWrite s
  | .slotSet => Sys2Proof.Machine.execSlotSet s
  | .slotClear => Sys2Proof.Machine.execSlotClear s
  | .switch => Sys2Proof.Machine.execSwitch s
  | .cancel => Sys2Proof.Machine.execCancel s
  | .park => Sys2Proof.Machine.execPark s
  | .resume => Sys2Proof.Machine.execResume s
  | .unbind => Sys2Proof.Machine.execUnbind s
  | .commandFieldSent => Sys2Proof.Machine.execCommandFieldSent s
  | .cancelComplete => Sys2Proof.Machine.execCancelComplete s
  | .responseArrival field => Sys2Proof.Machine.execResponseArrival field s
  | .waitLimitExceeded field => Sys2Proof.Machine.execWaitLimitExceeded field s
  | .retriesSpent field => Sys2Proof.Machine.execRetriesSpent field s
  | .lossLimitReached field => Sys2Proof.Machine.execLossLimitReached field s
  | .electionFailed field => Sys2Proof.Machine.execElectionFailed field s
  | .switchInstall => Sys2Proof.Machine.execSwitchInstall s
  | .frameEnd payload => Sys2Proof.Machine.execFrameEnd payload s
  | .quietFramesEnd payload => Sys2Proof.Machine.execQuietFramesEnd payload s
  | .linkCfg w => Sys2Proof.Machine.execLinkCfg w s
  | .xchgCfg w => Sys2Proof.Machine.execXchgCfg w s
  | .linkErrorsClear => Sys2Proof.Machine.execLinkErrorsClear s
  | .surveyStart => Sys2Proof.Machine.execSurveyStart s
  | .commitCheck => Sys2Proof.Machine.execCommitCheck s
  | .commitApply => Sys2Proof.Machine.execCommitApply s
  | .chgAppend => Sys2Proof.Machine.execChgAppend s
  | .chgClear => Sys2Proof.Machine.execChgClear s
  | .reqSubmit => Sys2Proof.Machine.execReqSubmit s
  | .reqFlush => Sys2Proof.Machine.execReqFlush s
  | .cplPop => Sys2Proof.Machine.execCplPop s
  | .gapPop => Sys2Proof.Machine.execGapPop s
  | .evtClear w => Sys2Proof.Machine.execEvtClear w s
  | .sevtClear w => Sys2Proof.Machine.execSevtClear w s
  | .evtEnable w => Sys2Proof.Machine.execEvtEnable w s
  | .sevtEnable w => Sys2Proof.Machine.execSevtEnable w s
  | .faultRecordClear => Sys2Proof.Machine.execFaultRecordClear s
  | .streamCfg n w => Sys2Proof.Machine.execStreamCfg n w s
  | .streamLevels n w => Sys2Proof.Machine.execStreamLevels n w s
  | .streamEnable n dma => Sys2Proof.Machine.execStreamEnable n dma s
  | .streamDisable n dma => Sys2Proof.Machine.execStreamDisable n dma s
  | .dmaEnable n dma => Sys2Proof.Machine.execDmaEnable n dma s
  | .countsClear n => Sys2Proof.Machine.execCountsClear n s
  | .captureRead n => Sys2Proof.Machine.execCaptureRead n s
  | .playbackWrite n w => Sys2Proof.Machine.execPlaybackWrite n w s
  | .unmapped offset access => Sys2Proof.Machine.execUnmapped offset access s
  | .registerWrite offset value lanes => Sys2Proof.Machine.execRegisterWrite offset value lanes s
  | .resetNRelease => Sys2Proof.Machine.execResetNRelease s
  | .refclkRestart => Sys2Proof.Machine.execRefclkRestart s

end Sys2Proof.Machine
end

