-- ==== Sys2Proof/Machine/Pins.lean ====
section
/-! DEFINITION. The output pins, read off the state: IRQ, DRQ, LCLK and what the hub drives on LDAT (R1, R2, R19, R154,
R163). -/
namespace Sys2Proof.Machine

/-- The IRQ pin: low while the part is held (R154, R163). -/
def State.irqPin (s : State) : Bool := !s.held && s.irq

/-- The DRQ[n] pin: low while the part is held (R139, R163). -/
def State.drqPin (s : State) (n : Fin 8) : Bool := !s.held && (s.stream n).drq

/-- LCLK carries the bit clock while frames are sent and is held low otherwise (R1). -/
def State.lclkRuns (s : State) : Bool := s.fe.running

/-- REFCLK periods in one period of LCLK while frames are sent: twice the DIV taken at LINK_START (R20). -/
def State.lclkPeriod (s : State) : Option Nat := if s.fe.running = true then some s.fe.session.refclkPerBit else none

/-- The bit a playback slot carries at position `p`, most significant bit first; none outside the slot (R19). -/
def Drive.bitAt (d : Drive) (p : Nat) : Option Bool :=
  if d.start.toNat ≤ p ∧ p < d.start.toNat + d.width.bits then
    some (d.value.getLsbD (d.start.toNat + d.width.bits - 1 - p))
  else none

/-- What the hub drives on LDAT at position `p` of the current frame; none where it releases the line (R2) and
past the frame length taken at LINK_START (R21). The command field is driven once it has been placed. -/
def State.ldat (s : State) (p : Nat) : Option Bool :=
  if s.fe.running = false then none
  else if p < 24 then some ((frameHead s.fe.frameNo).getMsbD p)
  else if p < 72 then s.cx.field.map fun w => w.getMsbD (p - 24)
  else if p < 128 ∨ s.fe.session.frameLength ≤ p then none
  else s.su.drives.findSome? fun d => d.bitAt p

end Sys2Proof.Machine
end

