-- ==== Sys2Proof/Machine/Window.lean ====
section
/-! DEFINITION. What a read of each register of the window returns (chapters 11.3 to 11.5, R161, R162). -/
namespace Sys2Proof.Machine

/-- STATUS (chapter 11.3). -/
def State.statusWord (s : State) : Word :=
  place 0 s.fe.link.code ||| place 4 s.ce.phase.code ||| place 8 s.sv.state.code |||
    placeNat 12 4 s.rq.queue.length ||| placeNat 16 5 s.rq.completions.length ||| placeNat 24 5 s.eu.gaps.length

/-- LINK_CFG (chapter 11.3). -/
def LinkCfg.word (c : LinkCfg) : Word := place 0 c.n ||| place 8 c.div

/-- XCHG_CFG (chapter 11.3). -/
def XchgCfg.word (c : XchgCfg) : Word := place 0 c.retry ||| place 8 c.wait ||| place 16 c.loss ||| place 20 c.interval

/-- LINK_ERRORS (chapter 11.3). -/
def State.linkErrorsWord (s : State) : Word := place 0 s.cx.garble ||| place 16 s.fe.contentionCount

/-- MAP_GEN (chapter 11.3). -/
def SlotMap.genWord (m : SlotMap) : Word := place 0 m.generation ||| placeNat 16 6 (mapCount m.active)

/-- SURVEY_RESULT (chapter 11.3). -/
def SurveyResult.word (r : SurveyResult) : Word :=
  place 0 r.outcome.code ||| placeNat 4 2 r.electionFailures ||| place 8 r.joined ||| place 16 r.rejoined |||
    place 24 r.failed

/-- COMMIT_RESULT0 (chapter 11.4): an absent field reads 0, its presence mark 0. -/
def Commit.resultWord0 (c : Commit) : Word :=
  place 0 c.phase.code ||| place 4 (CommitMode.code c.result.mode) ||| place 8 c.result.outcome.code |||
    place 12 ((c.result.reason.map Reason.code).getD 0) ||| placeNat 16 4 (c.result.changeIndex.getD 0) |||
    placeNat 20 5 ((c.result.slot.map Fin.val).getD 0) ||| placeBool 25 c.result.reason.isSome |||
    placeBool 26 c.result.changeIndex.isSome ||| placeBool 27 c.result.slot.isSome |||
    placeBool 28 c.result.node.isSome ||| placeBool 29 c.result.acked.isSome |||
    placeBool 30 c.result.switchFrame.isSome ||| placeBool 31 c.result.generation.isSome

/-- COMMIT_RESULT1 (chapter 11.4): its contents depend on the outcome. -/
def CommitResult.word1 (r : CommitResult) : Word :=
  match r.outcome with
  | .applied => place 0 (r.switchFrame.getD 0) ||| place 16 (r.generation.getD 0)
  | .aborted => placeNat 0 7 (r.acked.getD 0) ||| place 8 ((r.node.map addressBits).getD 0)
  | .none => 0
  | .checked => 0
  | .unchanged => 0
  | .refused => 0

/-- FAULT_RECORD (chapter 11.5); a record that is not valid reads 0 (R155). -/
def FaultRecord.word : Option FaultRecord → Word
  | none => 0
  | some f =>
    place 0 f.offset ||| place 12 f.cause.code ||| placeNat 16 3 ((f.stream.map Fin.val).getD 0) |||
      placeBool 19 f.stream.isSome ||| place 20 (EnableDetail.code f.detail) ||| placeBool 31 true

/-- GAP_HEAD0 (chapter 11.5). -/
def GapRecord.word0 (g : GapRecord) : Word :=
  placeNat 0 3 g.stream.val ||| place 4 g.kind.code ||| placeNat 8 4 (g.lanes.getD 0) ||| placeBool 12 g.lanes.isSome |||
    placeBool 15 true ||| place 16 g.frame

/-- CPL_HEAD0 (chapter 11.5). -/
def Completion.word0 (c : Completion) : Word :=
  place 0 c.tag ||| place 8 c.kind.code ||| place 12 (addressBits c.addr) ||| place 16 c.outcome.code |||
    placeNat 20 4 c.attempts ||| placeBool 24 c.data.isSome ||| placeBool 31 true

/-- REQ_STATUS (chapter 11.5). -/
def State.reqStatusWord (s : State) : Word :=
  placeNat 0 4 s.rq.queue.length ||| placeBool 4 s.headInFlight ||| placeNat 8 4 s.rq.discard.count |||
    place 12 s.rq.discard.cause.code

/-- DIRECTORY word 0 (chapter 11.3). -/
def Entry.word0 (e : Entry) : Word :=
  place 0 e.state.code ||| placeBool 3 e.seq ||| placeBool 4 e.resync ||| placeNat 5 4 e.miss |||
    placeBool 9 e.caps.isSome ||| place 10 (((e.caps.map Caps.a).getD 0).setWidth 9) |||
    place 19 (((e.caps.map Caps.b).getD 0).setWidth 5) ||| place 24 (e.lastHeard.setWidth 8)

/-- DIRECTORY word 1: the identity, 0 where it is absent (chapter 11.3). -/
def Entry.word1 (e : Entry) : Word := e.identity.getD 0

/-- SLOT_VIEW word 0: 0 where the slot is unused (chapter 11.4). -/
def SlotRecord.word0 : Option SlotRecord → Word
  | none => 0
  | some r =>
    place 0 (addressBits r.owner) ||| placeNat 4 3 r.port.val ||| placeBool 7 r.dir.bit ||| placeNat 8 6 r.width.bits |||
      placeNat 16 3 r.stream.val ||| placeNat 20 3 r.lane.val ||| placeBool 31 true

/-- SLOT_VIEW word 1: the start (chapter 11.4). -/
def SlotRecord.word1 (o : Option SlotRecord) : Word := place 0 ((o.map SlotRecord.start).getD 0)

/-- CHANGE_VIEW word 0: the fields present for the kind, bit 31 a record present (chapter 11.4). -/
def Change.word0 : Option Change → Word
  | none => 0
  | some (.add k r) =>
    placeNat 4 5 k.val ||| place 12 (addressBits r.owner) ||| placeNat 16 3 r.port.val ||| placeBool 19 r.dir.bit |||
      place 20 r.width.code ||| placeNat 24 3 r.stream.val ||| placeNat 28 3 r.lane.val ||| placeBool 31 true
  | some (.drop k) => placeNat 0 2 1 ||| placeNat 4 5 k.val ||| placeBool 31 true
  | some (.move k _) => placeNat 0 2 2 ||| placeNat 4 5 k.val ||| placeBool 31 true

/-- CHANGE_VIEW word 1: the start, of an ADD or a MOVE (chapter 11.4). -/
def Change.word1 : Option Change → Word
  | some (.add _ r) => place 0 r.start
  | some (.move _ st) => place 0 st
  | some (.drop _) => 0
  | none => 0

/-- A stream's CFG (chapter 11.5). -/
def Stream.cfgWord (st : Stream) : Word :=
  placeBool 0 st.dir.bit ||| place 1 st.width.code ||| placeBool 4 st.packing ||| placeBool 5 st.signExt |||
    placeBool 6 st.fillMode.bit ||| placeNat 16 10 st.capacity

/-- A stream's LEVELS (chapter 11.5). -/
def Stream.levelsWord (st : Stream) : Word := place 0 st.service ||| place 10 st.burst ||| place 20 st.startLevel

/-- A stream's CTRL as read (R136, chapter 11.5). -/
def Stream.ctrlWord (st : Stream) : Word := placeBool 4 st.dma ||| placeBool 5 st.half ||| placeBool 6 st.drq

/-- A stream's STATUS, with the number of its records in the active map (R129, chapter 11.5). -/
def Stream.statusWord (st : Stream) (records : Nat) : Word :=
  place 0 st.state.code ||| placeBool 2 st.xrun ||| placeNat 4 4 st.live.length ||| placeNat 8 4 records |||
    placeNat 16 10 st.fill

/-- A stream's COUNTS (chapter 11.5). -/
def Stream.countsWord (st : Stream) : Word := place 0 st.overruns ||| place 16 st.underruns

/-- The word a read of a register returns. A write-only word reads 0 (R161); a DATA_PORT is read by CAPTURE_READ,
and stands here as 0. -/
def State.regWord (s : State) (r : Reg) : Word :=
  match r with
  | .id => Config.idWord
  | .control => 0
  | .status => s.statusWord
  | .linkCfg => s.fe.cfg.word
  | .xchgCfg => s.cx.cfg.word
  | .frameNumber => place 0 s.fe.frameNo
  | .linkErrors => s.linkErrorsWord
  | .mapGen => s.sm.genWord
  | .survey => 0
  | .surveyResult => s.sv.result.word
  | .commit => 0
  | .commitResult0 => s.ce.resultWord0
  | .commitResult1 => s.ce.result.word1
  | .evtRaw => place 0 s.evtRaw
  | .evtEnable => place 0 s.eu.enable
  | .evtPending => place 0 s.evtPending
  | .evtClear => 0
  | .sevtRaw => place 0 s.sevtRaw
  | .sevtEnable => place 0 s.eu.senable
  | .sevtPending => place 0 s.sevtPending
  | .sevtClear => 0
  | .faultRecord => FaultRecord.word s.eu.fault
  | .faultCount => place 0 s.eu.faultCount
  | .gapHead0 => (s.eu.gaps.head?.map GapRecord.word0).getD 0
  | .gapHead1 => (s.eu.gaps.head?.map GapRecord.index).getD 0
  | .gapPop => 0
  | .reqStage0 => s.rq.stage0
  | .reqStage1 => s.rq.stage1
  | .reqSubmit => 0
  | .reqStatusFlush => s.reqStatusWord
  | .cplHead0 => (s.rq.completions.head?.map Completion.word0).getD 0
  | .cplHead1 => place 0 ((s.rq.completions.head?.bind Completion.data).getD 0)
  | .cplPop => 0
  | .chgStage0 => s.cl.stage0
  | .chgStage1 => s.cl.stage1
  | .chgAppend => 0
  | .chgClear => 0
  | .chgStatus => placeNat 0 5 s.cl.list.length
  | .directory a second => if second = true then s.nd[a].word1 else s.nd[a].word0
  | .slotView k second => if second = true then SlotRecord.word1 s.sm.active[k] else SlotRecord.word0 s.sm.active[k]
  | .changeView i second => if second = true then Change.word1 s.cl.list[i.val]? else Change.word0 s.cl.list[i.val]?
  | .streamCfg n => s.su.streams[n].cfgWord
  | .streamLevels n => s.su.streams[n].levelsWord
  | .streamCtrl n => s.su.streams[n].ctrlWord
  | .streamStatus n => s.su.streams[n].statusWord (recordCount s.sm.active n)
  | .streamCounts n => s.su.streams[n].countsWord
  | .streamSamples n => s.su.streams[n].counter
  | .dataPort _ => 0

/-- The word a read of the window returns, a DATA_PORT left aside: 0 while the part is held, and 0 for an unmapped
word (R160). -/
def State.windowRead (s : State) (o : WinOffset) : Word :=
  if s.held = true then 0
  else
    match decodeOffset o with
    | some r => s.regWord r
    | none => 0

end Sys2Proof.Machine
end

