-- ==== Sys2Proof/Safety.lean ====
section
/-! DEFINITION. What the spec promises of the block at every moment, as predicates on one state. -/
namespace Sys2Proof

/-- The rows of the host and of the pins: an access of the window, RESET_N, REFCLK. Every other row is an event of the
frame (R1, R160, R163). -/
def Instr.isHostEvent : Instr → Bool
  | .resetN => true
  | .refclkStop => true
  | .resetNRelease => true
  | .refclkRestart => true
  | .softReset => true
  | .linkStart => true
  | .linkStop => true
  | .faultClear => true
  | .linkCfg _ => true
  | .xchgCfg _ => true
  | .linkErrorsClear => true
  | .surveyStart => true
  | .commitCheck => true
  | .commitApply => true
  | .chgAppend => true
  | .chgClear => true
  | .reqSubmit => true
  | .reqFlush => true
  | .cplPop => true
  | .gapPop => true
  | .evtClear _ => true
  | .sevtClear _ => true
  | .evtEnable _ => true
  | .sevtEnable _ => true
  | .faultRecordClear => true
  | .streamCfg _ _ => true
  | .streamLevels _ _ => true
  | .streamEnable _ _ => true
  | .streamDisable _ _ => true
  | .dmaEnable _ _ => true
  | .countsClear _ => true
  | .captureRead _ => true
  | .playbackWrite _ _ => true
  | .unmapped _ _ => true
  | .registerWrite _ _ _ => true
  | .frameStart => false
  | .readbackComparison _ => false
  | .contentionFault => false
  | .syncComplete => false
  | .identify => false
  | .assign => false
  | .ping => false
  | .read => false
  | .write => false
  | .slotSet => false
  | .slotClear => false
  | .switch => false
  | .cancel => false
  | .park => false
  | .resume => false
  | .unbind => false
  | .commandFieldSent => false
  | .cancelComplete => false
  | .responseArrival _ => false
  | .waitLimitExceeded _ => false
  | .retriesSpent _ => false
  | .lossLimitReached _ => false
  | .electionFailed _ => false
  | .switchInstall => false
  | .frameEnd _ => false
  | .quietFramesEnd _ => false

end Sys2Proof

namespace Sys2Proof.Machine

/-! ### Lists -/

/-- Every list stays within its places, and the request in flight stands at the head of its queue with a free place
kept for its completion (R85, R143, R145, R149, R158). -/
structure State.ListsBounded (s : State) : Prop where
  requests : s.rq.queue.length ≤ Config.requestQueueSize
  completions : s.rq.completions.length ≤ Config.completionListSize
  changes : s.cl.list.length ≤ Config.changeListSize
  gaps : s.eu.gaps.length ≤ Config.gapListSize
  headKept : s.headInFlight = true → s.rq.queue ≠ [] ∧ s.rq.completions.length < Config.completionListSize

/-! ### Streams -/

/-- The sum of the eight stream capacities (R113). -/
def totalCapacity (ss : Vector Stream 8) : Nat := streamNumbers.foldl (fun acc n => acc + ss[n].capacity) 0

/-- The pool is never shared out beyond its entries, no queue holds more than its capacity, and a disabled stream
holds nothing (R113, R115, R119). -/
structure State.PoolFits (s : State) : Prop where
  sum : totalCapacity s.su.streams ≤ Config.poolSize
  fits : ∀ n : Fin 8, s.su.streams[n].fill ≤ s.su.streams[n].capacity
  disabledEmpty : ∀ n : Fin 8, s.su.streams[n].enabled = false → s.su.streams[n].queue = []

/-- DRQ[n] is asserted while the three conditions of R139 hold, and is low otherwise. -/
def State.LinesJudged (s : State) : Prop := ∀ n : Fin 8, s.su.streams[n].drq = s.su.streams[n].drqLevel

/-! ### A stopped link -/

/-- Nothing of a link session is left (R33, R34). -/
structure State.NoSession (s : State) : Prop where
  noCommand : s.cx.inFlight = none
  allFree : s.nd = Directory.allFree
  noMap : s.sm.active = SlotTable.empty
  idle : s.ce.phase = .idle
  noPending : s.ce.pending = none
  noStaging : s.ce.staging = []
  noSurvey : s.sv.state.isRunning = false
  noLive : ∀ n : Fin 8, s.su.streams[n].live = []

/-- While the link is DOWN or in FAULT, and in a session that has not reached UP, nothing of a session stands; once
the drain condition has held in a drain it holds to its end (R17, R25, R29, R33, R34, R65, R79). -/
structure State.StoppedIsEmpty (s : State) : Prop where
  stopped : s.fe.link = .down ∨ s.fe.link = .fault ∨ s.fe.link = .syncing ∨
    (s.fe.link = .draining ∧ s.fe.drainFromSync = true) → s.NoSession
  drained : s.fe.link = .draining → s.fe.drainHeld = true → s.drainCondition = true

/-! ### The slot map -/

/-- No two records of a map share a bit position, and every record lies within positions 128 to len - 1 (R83). -/
structure MapFits (m : SlotTable) (len : Nat) : Prop where
  within : ∀ (k : Fin 32) (r : SlotRecord), m[k] = some r → Config.payloadStart ≤ r.start.toNat ∧ r.stop ≤ len
  disjoint : ∀ (j k : Fin 32) (r r' : SlotRecord), j ≠ k → m[j] = some r → m[k] = some r' →
    r.stop ≤ r'.start.toNat ∨ r'.stop ≤ r.start.toNat

/-- The start a change record carries is at least 128 (R85, R87). -/
def Change.startsInPayload : Change → Prop
  | .add _ r => Config.payloadStart ≤ r.start.toNat
  | .move _ st => Config.payloadStart ≤ st.toNat
  | .drop _ => True

/-- The active map and a pending map fit the frame length of LINK_CFG, which is the session's while frames are sent,
and the maps are empty in DOWN, where LINK_CFG may change (R21, R22, R83). -/
structure State.MapsFit (s : State) : Prop where
  active : MapFits s.sm.active s.fe.cfg.frameLength
  pending : ∀ m : SlotTable, s.ce.pending = some m → MapFits m s.fe.cfg.frameLength
  session : s.fe.running = true → s.fe.session = s.fe.cfg
  changes : ∀ c ∈ s.cl.list, c.startsInPayload
  down : s.fe.link = .down → s.sm.active = SlotTable.empty ∧ s.ce.pending = none

/-! ### The directory -/

/-- The survey's command in progress is the one its state names (R36, R70). -/
def Survey.commandMatches (sv : Survey) (r : InFlight) : Prop :=
  match r.cmd with
  | .identify => sv.state = .seeking
  | .assign _ => sv.state = .elected
  | _ => sv.state = .binding ∧ ∃ b, sv.binding = some b ∧ r.target = .node b.target

/-- No two entries hold one identity, a FREE entry holds none, and an entry is BOUND only while the survey binds it
(R56, R66, R75). The last two parts say how a survey under way keeps it so: the identity elected is held by no entry but
its target, and the survey's command in progress is the one its state names. -/
structure State.IdentitiesHeldOnce (s : State) : Prop where
  free : ∀ a : NodeAddr, s.nd[a].state = .free → s.nd[a].identity = none
  once : ∀ (a b : NodeAddr) (id : Identity), a ≠ b → s.nd[a].identity = some id → s.nd[b].identity ≠ some id
  bound : ∀ a : NodeAddr, s.nd[a].state = .bound →
    s.sv.state = .binding ∧ ∃ b, s.sv.binding = some b ∧ b.target = a
  elected : s.sv.state = .elected →
    ∃ b, s.sv.binding = some b ∧ ∀ a : NodeAddr, a ≠ b.target → s.nd[a].identity ≠ some b.identity
  command : ∀ r, s.cx.inFlight = some r → r.source = .survey ∨ r.cmd = .identify → s.sv.commandMatches r

/-! ### Tables of the spec that claims name -/

/-- The reset value of each word of the window (chapter 11.2); the write-only words and the data ports, for which the
table gives none, stand as 0. -/
def Reg.resetWord : Reg → Word
  | .id => 0xD3200011
  | .linkCfg => 0x00000100
  | .xchgCfg => 0x00041002
  | .streamCfg _ => 0x00000002
  | _ => 0

/-- The words whose access type is RO (chapter 11.2). -/
def Reg.isReadOnly : Reg → Bool
  | .id => true
  | .status => true
  | .frameNumber => true
  | .mapGen => true
  | .surveyResult => true
  | .commitResult0 => true
  | .commitResult1 => true
  | .evtRaw => true
  | .evtPending => true
  | .sevtRaw => true
  | .sevtPending => true
  | .faultCount => true
  | .gapHead0 => true
  | .gapHead1 => true
  | .cplHead0 => true
  | .cplHead1 => true
  | .chgStatus => true
  | .directory _ _ => true
  | .slotView _ _ => true
  | .changeView _ _ => true
  | .streamStatus _ => true
  | .streamSamples _ => true
  | _ => false

/-- Every block stands at its device-reset values (R35). -/
def State.atReset (s : State) : Prop := s.deviceReset = s

end Sys2Proof.Machine
end

