-- ==== Sys2Proof/Certificates/Slice0/Obligations.lean ====
section
/-! DEFINITION. The statements for the provers. -/

open Sys2Proof Sys2Proof.Machine

/-! ### The queue, the window and the device reset -/

/-- A step carries out the command at the front of the queue on the state with the queue's rest; with no command
waiting it leaves the state as it is (the second part is the model's choice, log entry 1). -/
def Obligations.StepTakesFrontCommand : Prop :=
  (∀ (s : State) (c : Instr) (rest : List Instr), s.pending = c :: rest →
    step s = exec c { s with pending := rest }) ∧
  (∀ s : State, s.pending = [] → step s = .next s)

/-- The window has each register at the offset of the table of chapter 11.2, names it at the four offsets of its word and
at no other, and after a device reset every word reads the table's reset value (R160). While the part is not held every
word reads, from one moment of the state, the fields of chapters 11.3 to 11.5 at their bits, most significant first, a bit
in no field reading 0; a record, an entry or a field that is absent reads 0 with its marker 0; a write-only word reads 0
(R57, R84, R106, R129, R148, R155, R158, R161, R162). The codes of the fields are those of these chapters. EVT_PENDING,
SEVT_PENDING and the two enables are the subject of EnablesAndInterrupt, a data port of CaptureReadReturnsHead. -/
def Obligations.WindowReadsAsTabled : Prop :=
  (∀ (r : Reg) (i : Fin 4), decodeOffset (r.offset + BitVec.ofNat 12 i.val) = some r) ∧
  (∀ (o : WinOffset) (r : Reg), decodeOffset o = some r → wordOffset o = r.offset) ∧
  (∀ r : Reg, State.reset.windowRead r.offset = r.resetWord) ∧
  -- the offsets
  ([Reg.id, .control, .status, .linkCfg, .xchgCfg, .frameNumber, .linkErrors, .mapGen, .survey, .surveyResult, .commit,
      .commitResult0, .commitResult1].map Reg.offset =
    [0x000, 0x004, 0x008, 0x00C, 0x010, 0x014, 0x018, 0x01C, 0x020, 0x024, 0x030, 0x034, 0x038]) ∧
  ([Reg.evtRaw, .evtEnable, .evtPending, .evtClear, .sevtRaw, .sevtEnable, .sevtPending, .sevtClear, .faultRecord,
      .faultCount, .gapHead0, .gapHead1, .gapPop].map Reg.offset =
    [0x040, 0x044, 0x048, 0x04C, 0x050, 0x054, 0x058, 0x05C, 0x060, 0x064, 0x070, 0x074, 0x078]) ∧
  ([Reg.reqStage0, .reqStage1, .reqSubmit, .reqStatusFlush, .cplHead0, .cplHead1, .cplPop, .chgStage0, .chgStage1,
      .chgAppend, .chgClear, .chgStatus].map Reg.offset =
    [0x080, 0x084, 0x088, 0x08C, 0x090, 0x094, 0x098, 0x0A0, 0x0A4, 0x0A8, 0x0AC, 0x0B0]) ∧
  (∀ (a : NodeAddr) (k : Fin 32) (i : Fin 16) (second : Bool),
    let word : WinOffset := if second = true then 4 else 0
    (Reg.directory a second).offset = 0x100 + 8 * BitVec.ofNat 12 a.val + word ∧
    (Reg.slotView k second).offset = 0x200 + 8 * BitVec.ofNat 12 k.val + word ∧
    (Reg.changeView i second).offset = 0x300 + 8 * BitVec.ofNat 12 i.val + word) ∧
  (∀ n : Fin 8,
    let block : WinOffset := 0x400 + 0x20 * BitVec.ofNat 12 n.val
    (Reg.streamCfg n).offset = block ∧ (Reg.streamLevels n).offset = block + 0x04 ∧
    (Reg.streamCtrl n).offset = block + 0x08 ∧ (Reg.streamStatus n).offset = block + 0x0C ∧
    (Reg.streamCounts n).offset = block + 0x10 ∧ (Reg.streamSamples n).offset = block + 0x14 ∧
    (Reg.dataPort n).offset = 0x800 + 4 * BitVec.ofNat 12 n.val) ∧
  -- the codes
  ([LinkState.down, .syncing, .up, .draining, .fault].map LinkState.code = [0, 1, 2, 3, 4]) ∧
  ([Phase.idle, .pending, .staging, .switching, .cancelling].map Phase.code = [0, 1, 2, 3, 4]) ∧
  ([SurveyState.idle, .seeking, .elected, .binding, .finished].map SurveyState.code = [0, 1, 2, 3, 4]) ∧
  ([SurveyOutcome.none, .running, .complete, .directoryFull, .electionFailed, .stopped].map SurveyOutcome.code =
    [0, 1, 2, 3, 4, 5]) ∧
  ([EntryState.free, .bound, .ready, .parked, .lost].map EntryState.code = [0, 1, 2, 3, 4]) ∧
  ([none, some CommitMode.check, some .apply].map CommitMode.code = [0, 1, 2]) ∧
  ([CommitOutcome.none, .checked, .applied, .unchanged, .refused, .aborted].map CommitOutcome.code =
    [0, 1, 2, 3, 4, 5]) ∧
  ([Reason.empty, .slotNumber, .range, .overlap, .owner, .capability, .portClash, .streamMismatch, .lane, .capacity,
      .linkNotUp, .nodeRefused, .noAnswer, .timeout, .linkStop].map Reason.code =
    [1, 2, 3, 4, 5, 6, 7, 8, 9, 10, 11, 12, 13, 14, 15]) ∧
  ([ReqKind.nodeRead, .nodeWrite, .park, .resume, .release, .ping].map ReqKind.code = [0, 1, 2, 3, 4, 5]) ∧
  ([CplOutcome.done, .refused, .noAnswer, .timeout, .notBound, .isProtected, .unsupported, .linkDown].map
    CplOutcome.code = [0, 1, 2, 3, 4, 5, 6, 7]) ∧
  ([DiscardCause.none, .flush, .linkStop].map DiscardCause.code = [0, 1, 2]) ∧
  ([FaultCause.unmapped, .readOnly, .stateRefused, .stateLocked, .poolExceeded, .enableRefused, .listFull, .listBusy,
      .fieldInvalid, .queueFull, .emptyPop, .dry, .spill, .wrongDirection, .streamDisabled].map FaultCause.code =
    [1, 2, 3, 4, 5, 6, 7, 8, 9, 10, 11, 12, 13, 14, 15]) ∧
  ([none, some EnableDetail.noCapacity, some .capacityShort, some .mismatch].map EnableDetail.code = [0, 1, 2, 3]) ∧
  ([GapKind.start, .overrun, .underrun, .lanesChanged].map GapKind.code = [0, 1, 2, 3]) ∧
  ([StreamState.disabled, .priming, .running].map StreamState.code = [0, 1, 2]) ∧
  ([Width.w8, .w16, .w20, .w24, .w32].map (fun w => (w.code, w.bits)) = [(0, 8), (1, 16), (2, 20), (3, 24), (4, 32)]) ∧
  ([StickyEvent.linkUp, .linkDown, .linkFault, .surveyDone, .nodeJoined, .nodeRejoined, .nodeLost, .commitDone,
      .gapOverflow, .accessFault].map StickyEvent.bit = [0, 1, 2, 3, 4, 5, 6, 7, 10, 11]) ∧
  -- the layouts
  (∀ s : State, s.held = false →
    let flag (b : Bool) : BitVec 1 := BitVec.ofBool b
    let address (a : NodeAddr) : BitVec 4 := BitVec.ofNat 4 (a.val + 1)
    let slotCount := ((List.finRange 32).filter fun k => (s.sm.active[k]).isSome).length
    let r := s.ce.result
    let headFlying := match s.cx.inFlight with
      | some c => decide (c.source = .request)
      | none => false
    s.windowRead 0x000 = 0xD3200011 ∧
    s.windowRead 0x008 = 0#3 ++ BitVec.ofNat 5 s.eu.gaps.length ++ 0#3 ++ BitVec.ofNat 5 s.rq.completions.length ++
      BitVec.ofNat 4 s.rq.queue.length ++ 0#1 ++ s.sv.state.code ++ 0#1 ++ s.ce.phase.code ++ 0#1 ++ s.fe.link.code ∧
    s.windowRead 0x00C = 0#17 ++ s.fe.cfg.div ++ 0#2 ++ s.fe.cfg.n ∧
    s.windowRead 0x010 = s.cx.cfg.interval ++ s.cx.cfg.loss ++ s.cx.cfg.wait ++ 0#5 ++ s.cx.cfg.retry ∧
    s.windowRead 0x014 = 0#16 ++ s.fe.frameNo ∧
    s.windowRead 0x018 = s.fe.contentionCount ++ s.cx.garble ∧
    s.windowRead 0x01C = 0#10 ++ BitVec.ofNat 6 slotCount ++ s.sm.generation ∧
    s.windowRead 0x024 = s.sv.result.failed ++ s.sv.result.rejoined ++ s.sv.result.joined ++ 0#2 ++
      BitVec.ofNat 2 s.sv.result.electionFailures ++ 0#1 ++ s.sv.result.outcome.code ∧
    s.windowRead 0x034 = flag r.generation.isSome ++ flag r.switchFrame.isSome ++ flag r.acked.isSome ++
      flag r.node.isSome ++ flag r.slot.isSome ++ flag r.changeIndex.isSome ++ flag r.reason.isSome ++
      BitVec.ofNat 5 ((r.slot.map Fin.val).getD 0) ++ BitVec.ofNat 4 (r.changeIndex.getD 0) ++
      (r.reason.map Reason.code).getD 0 ++ 0#1 ++ r.outcome.code ++ 0#2 ++ CommitMode.code r.mode ++ 0#1 ++
      s.ce.phase.code ∧
    (r.outcome = .applied → s.windowRead 0x038 = r.generation.getD 0 ++ r.switchFrame.getD 0) ∧
    (r.outcome = .aborted →
      s.windowRead 0x038 = 0#20 ++ (r.node.map address).getD 0 ++ 0#1 ++ BitVec.ofNat 7 (r.acked.getD 0)) ∧
    (r.outcome ≠ .applied → r.outcome ≠ .aborted → s.windowRead 0x038 = 0) ∧
    s.windowRead 0x040 = 0#20 ++ s.eu.sticky.extractLsb' 10 2 ++ flag (decide (s.eu.gaps ≠ [])) ++
      flag (decide (s.rq.completions ≠ [])) ++ s.eu.sticky.extractLsb' 0 8 ∧
    s.windowRead 0x050 = 0#16 ++ s.eu.xrun ++ s.serviceBits ∧
    (s.eu.fault = none → s.windowRead 0x060 = 0) ∧
    (∀ f, s.eu.fault = some f → s.windowRead 0x060 = 1#1 ++ 0#9 ++ EnableDetail.code f.detail ++
      flag f.stream.isSome ++ BitVec.ofNat 3 ((f.stream.map Fin.val).getD 0) ++ f.cause.code ++ f.offset) ∧
    s.windowRead 0x064 = 0#24 ++ s.eu.faultCount ∧
    (s.eu.gaps = [] → s.windowRead 0x070 = 0 ∧ s.windowRead 0x074 = 0) ∧
    (∀ g rest, s.eu.gaps = g :: rest → s.windowRead 0x070 = g.frame ++ 1#1 ++ 0#2 ++ flag g.lanes.isSome ++
      BitVec.ofNat 4 (g.lanes.getD 0) ++ 0#2 ++ g.kind.code ++ 0#1 ++ BitVec.ofNat 3 g.stream.val ∧
      s.windowRead 0x074 = g.index) ∧
    s.windowRead 0x080 = s.rq.stage0 ∧ s.windowRead 0x084 = s.rq.stage1 ∧
    s.windowRead 0x08C = 0#18 ++ s.rq.discard.cause.code ++ BitVec.ofNat 4 s.rq.discard.count ++ 0#3 ++
      flag headFlying ++ BitVec.ofNat 4 s.rq.queue.length ∧
    (s.rq.completions = [] → s.windowRead 0x090 = 0 ∧ s.windowRead 0x094 = 0) ∧
    (∀ c rest, s.rq.completions = c :: rest → s.windowRead 0x090 = 1#1 ++ 0#6 ++ flag c.data.isSome ++
      BitVec.ofNat 4 c.attempts ++ 0#1 ++ c.outcome.code ++ address c.addr ++ 0#1 ++ c.kind.code ++ c.tag ∧
      s.windowRead 0x094 = 0#16 ++ c.data.getD 0) ∧
    s.windowRead 0x0A0 = s.cl.stage0 ∧ s.windowRead 0x0A4 = s.cl.stage1 ∧
    s.windowRead 0x0B0 = 0#27 ++ BitVec.ofNat 5 s.cl.list.length ∧
    (∀ a : NodeAddr,
      let e := s.nd[a]
      s.windowRead (0x100 + 8 * BitVec.ofNat 12 a.val) = e.lastHeard.extractLsb' 0 8 ++
        ((e.caps.map Caps.b).getD 0).extractLsb' 0 5 ++ ((e.caps.map Caps.a).getD 0).extractLsb' 0 9 ++
        flag e.caps.isSome ++ BitVec.ofNat 4 e.miss ++ flag e.resync ++ flag e.seq ++ e.state.code ∧
      s.windowRead (0x104 + 8 * BitVec.ofNat 12 a.val) = e.identity.getD 0) ∧
    (∀ k : Fin 32,
      (s.sm.active[k] = none → s.windowRead (0x200 + 8 * BitVec.ofNat 12 k.val) = 0 ∧
        s.windowRead (0x204 + 8 * BitVec.ofNat 12 k.val) = 0) ∧
      (∀ m : SlotRecord, s.sm.active[k] = some m →
        s.windowRead (0x200 + 8 * BitVec.ofNat 12 k.val) = 1#1 ++ 0#8 ++ BitVec.ofNat 3 m.lane.val ++ 0#1 ++
          BitVec.ofNat 3 m.stream.val ++ 0#2 ++ BitVec.ofNat 6 m.width.bits ++ flag (decide (m.dir = .playback)) ++
          BitVec.ofNat 3 m.port.val ++ address m.owner ∧
        s.windowRead (0x204 + 8 * BitVec.ofNat 12 k.val) = 0#21 ++ m.start)) ∧
    (∀ i : Fin 16,
      let w0 := s.windowRead (0x300 + 8 * BitVec.ofNat 12 i.val)
      let w1 := s.windowRead (0x304 + 8 * BitVec.ofNat 12 i.val)
      (s.cl.list[i.val]? = none → w0 = 0 ∧ w1 = 0) ∧
      (∀ k m, s.cl.list[i.val]? = some (.add k m) → w0 = 1#1 ++ BitVec.ofNat 3 m.lane.val ++ 0#1 ++
        BitVec.ofNat 3 m.stream.val ++ 0#1 ++ m.width.code ++ flag (decide (m.dir = .playback)) ++
        BitVec.ofNat 3 m.port.val ++ address m.owner ++ 0#3 ++ BitVec.ofNat 5 k.val ++ 0#2 ++ 0#2 ∧
        w1 = 0#21 ++ m.start) ∧
      (∀ k, s.cl.list[i.val]? = some (.drop k) → w0 = 1#1 ++ 0#22 ++ BitVec.ofNat 5 k.val ++ 0#2 ++ 1#2 ∧ w1 = 0) ∧
      (∀ k st, s.cl.list[i.val]? = some (.move k st) →
        w0 = 1#1 ++ 0#22 ++ BitVec.ofNat 5 k.val ++ 0#2 ++ 2#2 ∧ w1 = 0#21 ++ st)) ∧
    (∀ n : Fin 8,
      let st := s.su.streams[n]
      let at' (o : WinOffset) : Word := s.windowRead (0x400 + 0x20 * BitVec.ofNat 12 n.val + o)
      let records := ((List.finRange 32).filter fun k => match s.sm.active[k] with
        | some m => decide (m.stream = n)
        | none => false).length
      at' 0x00 = 0#6 ++ BitVec.ofNat 10 st.capacity ++ 0#9 ++ flag (decide (st.fillMode = .hold)) ++ flag st.signExt ++
        flag st.packing ++ st.width.code ++ flag (decide (st.dir = .playback)) ∧
      at' 0x04 = 0#2 ++ st.startLevel ++ st.burst ++ st.service ∧
      at' 0x08 = 0#25 ++ flag st.drq ++ flag st.half ++ flag st.dma ++ 0#4 ∧
      at' 0x0C = 0#6 ++ BitVec.ofNat 10 st.queue.length ++ 0#4 ++ BitVec.ofNat 4 records ++
        BitVec.ofNat 4 st.live.length ++ 0#1 ++ flag st.xrun ++ st.state.code ∧
      at' 0x10 = st.underruns ++ st.overruns ∧ at' 0x14 = st.counter) ∧
    ∀ o ∈ ([0x004, 0x020, 0x030, 0x04C, 0x05C, 0x078, 0x088, 0x098, 0x0A8, 0x0AC] : List WinOffset),
      s.windowRead o = 0)

/-- Each way into a device reset, and each way out of being held, leaves every block at its reset values; the levels of
the two pins and the commands that wait stand (R35, R163; that they stand is the model's choice, log entry 19). -/
def Obligations.DeviceResetsTakeEveryBlock : Prop :=
  ∀ s : State,
    exec .resetN s = .next { State.reset with resetN := false, refclk := s.refclk, pending := s.pending } ∧
    exec .refclkStop s = .next { State.reset with resetN := s.resetN, refclk := false, pending := s.pending } ∧
    (s.held = false → exec .softReset s = .next { State.reset with pending := s.pending }) ∧
    (s.resetN = false →
      exec .resetNRelease s = .next { State.reset with resetN := true, refclk := s.refclk, pending := s.pending }) ∧
    (s.refclk = false →
      exec .refclkRestart s = .next { State.reset with resetN := s.resetN, refclk := true, pending := s.pending })

/-- While RESET_N is low or REFCLK is stopped, a write to the window is ignored, a read returns 0, nothing is recorded,
and IRQ and every DRQ line are low. Otherwise an access to an unmapped word is UNMAPPED at the word's offset, a read
returning 0 and a write changing nothing else (R160, R163; where the word read is left is the model's choice, log entry
12). -/
def Obligations.HeldAndUnmappedAccesses : Prop :=
  (∀ s : State, s.held = true →
     (∀ (o : WinOffset) (v : Word) (l : BitVec 4), exec (.registerWrite o v l) s = .next s) ∧
     (∀ n : Fin 8, exec (.captureRead n) s = .next { s with readData := 0 }) ∧
     (∀ o : WinOffset, s.windowRead o = 0) ∧
     s.irqPin = false ∧ ∀ n : Fin 8, s.drqPin n = false) ∧
  (∀ (s : State) (o : WinOffset), s.held = false → decodeOffset o = none →
     exec (.unmapped o .read) s = .next (({ s with readData := 0 } : State).accessFault .unmapped (o &&& 0xFFC)) ∧
     exec (.unmapped o .write) s = .next (s.accessFault .unmapped (o &&& 0xFFC)) ∧
     (∀ (v : Word) (l : BitVec 4),
       exec (.registerWrite o v l) s = .next (s.accessFault .unmapped (o &&& 0xFFC))) ∧
     s.windowRead o = 0)

/-- A write to CONTROL (offset 004h) is taken as at most one action: the one action bit set, or STATE_REFUSED for two or
more, or nothing for none; a read of CONTROL returns 0 (R24). -/
def Obligations.ControlTakesOneAction : Prop :=
  ∀ (s : State) (w : Word), s.held = false →
    (w.extractLsb' 0 4 = 1 → exec (.registerWrite 0x004 w 15) s = exec .softReset s) ∧
    (w.extractLsb' 0 4 = 2 → exec (.registerWrite 0x004 w 15) s = exec .linkStart s) ∧
    (w.extractLsb' 0 4 = 4 → exec (.registerWrite 0x004 w 15) s = exec .linkStop s) ∧
    (w.extractLsb' 0 4 = 8 → exec (.registerWrite 0x004 w 15) s = exec .faultClear s) ∧
    (w.extractLsb' 0 4 = 0 → exec (.registerWrite 0x004 w 15) s = .next s) ∧
    (w.extractLsb' 0 4 ≠ 0 → w.extractLsb' 0 4 ≠ 1 → w.extractLsb' 0 4 ≠ 2 → w.extractLsb' 0 4 ≠ 4 →
      w.extractLsb' 0 4 ≠ 8 →
      exec (.registerWrite 0x004 w 15) s = .next (s.accessFault .stateRefused 0x004)) ∧
    s.windowRead 0x004 = 0

/-! ### Link states -/

/-- LINK_START in DOWN takes n and DIV from LINK_CFG, sets the frame number, the run and the sync count to 0 and begins
frame 0 in SYNCING, with everything else as it was; elsewhere it is refused STATE_REFUSED (R25). -/
def Obligations.LinkStartBeginsSession : Prop :=
  ∀ s : State, s.held = false →
    (s.fe.link = .down → exec .linkStart s = .next { s with
      fe := { s.fe with
        link := .syncing, session := s.fe.cfg, frameNo := 0, contentionRun := 0, syncCount := 0, quietCount := 0
        drainHeld := false, drainFromSync := false, pos := .started }
      cx := { s.cx with field := none } }) ∧
    (s.fe.link ≠ .down → exec .linkStart s = .next (s.accessFault .stateRefused 0x004))

/-- LINK_STOP by link state. With no commit active, SYNCING and UP begin a drain and DRAINING is left as it is; DOWN and
FAULT refuse it. In UP a commit in PENDING, and one in STAGING with no staging command in progress, end ABORTED with cause
LINK_STOP and COMMIT_DONE at once; in the other cases the commit stands as it is (R27, R28, R107). -/
def Obligations.LinkStopByState : Prop :=
  (∀ s : State, s.held = false →
     (s.fe.link = .syncing → s.ce.phase = .idle → exec .linkStop s = .next { s with
       fe := { s.fe with link := .draining, quietCount := 0, drainHeld := false, drainFromSync := true } }) ∧
     (s.fe.link = .up → s.ce.phase = .idle → exec .linkStop s = .next { s with
       fe := { s.fe with link := .draining, quietCount := 0, drainHeld := false, drainFromSync := false } }) ∧
     (s.fe.link = .draining → exec .linkStop s = .next s) ∧
     (s.fe.link = .down ∨ s.fe.link = .fault → exec .linkStop s = .next (s.accessFault .stateRefused 0x004))) ∧
  (∀ s : State, s.held = false → s.fe.link = .up →
     let drained : FrameEngine :=
       { s.fe with link := .draining, quietCount := 0, drainHeld := false, drainFromSync := false }
     let aborted (acked : Nat) : Commit :=
       { s.ce with
         phase := .idle, pending := none, staging := [], switchFrame := none, acked := acked
         result := { mode := s.ce.result.mode, outcome := .aborted, reason := some .linkStop, changeIndex := none,
                     slot := none, node := none, acked := some acked, switchFrame := none, generation := none } }
     let done : EventUnit := { s.eu with sticky := s.eu.sticky ||| 0x080 }
     (s.ce.phase = .pending → exec .linkStop s = .next { s with fe := drained, ce := aborted 0, eu := done }) ∧
     (s.ce.phase = .staging → (∀ r, s.cx.inFlight = some r → r.source ≠ .commit) →
       exec .linkStop s = .next { s with fe := drained, ce := aborted s.ce.acked, eu := done }) ∧
     (s.ce.phase = .staging → (∃ r, s.cx.inFlight = some r ∧ r.source = .commit) →
       exec .linkStop s = .next { s with fe := drained }) ∧
     (s.ce.phase = .switching ∨ s.ce.phase = .cancelling → exec .linkStop s = .next { s with fe := drained }))

/-- FAULT_CLEAR in FAULT enters DOWN: the frame number, LINK_CFG, XCHG_CFG, the error counters, the change list, the
completion list and the staging words of both queues (CHG_STAGE0, CHG_STAGE1, REQ_STAGE0, REQ_STAGE1) stand; the
directory, the map and the queue are emptied, a map that held a record raises the generation, the waiting requests are
counted with cause LINK_STOP where there are any, every stream keeps all but its live set, and LINK_DOWN is raised.
Elsewhere FAULT_CLEAR has no effect (R30, R33, R34, R150). -/
def Obligations.FaultClearEntersDown : Prop :=
  ∀ s : State, s.held = false →
    (s.fe.link ≠ .fault → exec .faultClear s = .next s) ∧
    (s.fe.link = .fault → ∃ t, exec .faultClear s = .next t ∧
      t.fe.link = .down ∧ t.fe.frameNo = s.fe.frameNo ∧ t.fe.cfg = s.fe.cfg ∧
      t.fe.contentionCount = s.fe.contentionCount ∧ t.fe.contentionRun = 0 ∧
      t.cx = { s.cx with inFlight := none, field := none, scan := 0 } ∧
      (∀ a : NodeAddr, t.nd[a] = Entry.freeEntry) ∧
      (∀ k : Fin 32, t.sm.active[k] = none) ∧
      ((∀ k : Fin 32, s.sm.active[k] = none) → t.sm.generation = s.sm.generation) ∧
      ((∃ k : Fin 32, s.sm.active[k] ≠ none) → t.sm.generation = s.sm.generation + 1) ∧
      t.cl = s.cl ∧ t.ce.pending = none ∧ t.ce.staging = [] ∧ t.ce.result = s.ce.result ∧
      t.rq.queue = [] ∧ t.rq.completions = s.rq.completions ∧ t.rq.stage0 = s.rq.stage0 ∧ t.rq.stage1 = s.rq.stage1 ∧
      t.rq.discard = (if s.rq.queue.length = 0 then s.rq.discard
        else { count := s.rq.queue.length, cause := .linkStop }) ∧
      (∀ n : Fin 8, t.su.streams[n] = { s.su.streams[n] with live := [], sinceStart := false }) ∧
      t.eu.sticky.getLsbD 1 = true ∧ t.eu.gaps = s.eu.gaps ∧ t.eu.fault = s.eu.fault)

/-- LINK_CFG and XCHG_CFG are written as a whole in DOWN when every field is legal; an illegal field gives FIELD_INVALID
and any other link state STATE_LOCKED, and then no field changes (R22, R54). -/
def Obligations.ConfigurationWritesInDown : Prop :=
  ∀ (s : State) (w : Word), s.held = false →
    let n := w.extractLsb' 0 6
    let d := w.extractLsb' 8 7
    let limits : XchgCfg := { retry := w.extractLsb' 0 3, wait := w.extractLsb' 8 8, loss := w.extractLsb' 16 4,
                              interval := w.extractLsb' 20 12 }
    (s.fe.link = .down → n.toNat ≤ 56 → 1 ≤ d.toNat → d.toNat ≤ 64 →
      exec (.linkCfg w) s = .next { s with fe := { s.fe with cfg := { n := n, div := d } } }) ∧
    (s.fe.link = .down → (56 < n.toNat ∨ d.toNat = 0 ∨ 64 < d.toNat) →
      exec (.linkCfg w) s = .next (s.accessFault .fieldInvalid 0x00C)) ∧
    (s.fe.link ≠ .down → exec (.linkCfg w) s = .next (s.accessFault .stateLocked 0x00C)) ∧
    (s.fe.link = .down → limits.wait ≠ 0 → limits.loss ≠ 0 →
      exec (.xchgCfg w) s = .next { s with cx := { s.cx with cfg := limits } }) ∧
    (s.fe.link = .down → (limits.wait = 0 ∨ limits.loss = 0) →
      exec (.xchgCfg w) s = .next (s.accessFault .fieldInvalid 0x010)) ∧
    (s.fe.link ≠ .down → exec (.xchgCfg w) s = .next (s.accessFault .stateLocked 0x010))

/-! ### Events and faults -/

/-- A write to EVT_CLEAR or SEVT_CLEAR sets to 0 each sticky event whose position holds a 1 and no other; CPL_READY,
GAP_READY and SERVICE read as before. Any write to LINK_ERRORS sets the contention counter and the garble counter to 0 and
nothing else; any write to a stream's COUNTS sets its overrun and underrun counts to 0 and nothing else (R31, R44, R126,
R151, R152). -/
def Obligations.EventsAndCountersCleared : Prop :=
  (∀ (s : State) (w : Word), s.held = false →
     (∃ t, exec (.evtClear w) s = .next t ∧ t = { s with eu := { s.eu with sticky := t.eu.sticky } } ∧
       (∀ i, i < 12 → t.eu.sticky.getLsbD i = (s.eu.sticky.getLsbD i && !w.getLsbD i)) ∧
       t.evtRaw.getLsbD 8 = s.evtRaw.getLsbD 8 ∧
       t.evtRaw.getLsbD 9 = s.evtRaw.getLsbD 9) ∧
     (∃ t, exec (.sevtClear w) s = .next t ∧ t = { s with eu := { s.eu with xrun := t.eu.xrun } } ∧
       (∀ i, i < 8 → t.eu.xrun.getLsbD i = (s.eu.xrun.getLsbD i && !w.getLsbD (8 + i))) ∧
       t.serviceBits = s.serviceBits)) ∧
  (∀ s : State, s.held = false →
     exec .linkErrorsClear s = .next { s with
       fe := { s.fe with contentionCount := 0 }, cx := { s.cx with garble := 0 } } ∧
     ∀ n : Fin 8, ∃ t, exec (.countsClear n) s = .next t ∧
       t.su.streams[n] = { s.su.streams[n] with overruns := 0, underruns := 0 } ∧
       (∀ k : Fin 8, k ≠ n → t.su.streams[k] = s.su.streams[k]) ∧ t = { s with su := { s.su with streams := t.su.streams } })

/-- The two enable registers take every bit written; a pending value is raw AND enable; nothing raw changes; a device
reset sets both enables to 0 and the link-down clear leaves them. The interrupt line is asserted exactly while some pending
bit of EVT_PENDING or SEVT_PENDING is 1, in every link state; after a device reset it is low (R153, R154). -/
def Obligations.EnablesAndInterrupt : Prop :=
  (∀ (s : State) (w : Word), s.held = false →
    exec (.evtEnable w) s = .next { s with eu := { s.eu with enable := w.extractLsb' 0 12 } } ∧
    exec (.sevtEnable w) s = .next { s with eu := { s.eu with senable := w.extractLsb' 0 16 } } ∧
    ({ s with eu := { s.eu with enable := w.extractLsb' 0 12 } } : State).evtRaw = s.evtRaw ∧
    ({ s with eu := { s.eu with senable := w.extractLsb' 0 16 } } : State).sevtRaw = s.sevtRaw ∧
    exec (.registerWrite 0x048 w 15) s = .next (s.accessFault .readOnly 0x048) ∧
    exec (.registerWrite 0x058 w 15) s = .next (s.accessFault .readOnly 0x058)) ∧
  (∀ s : State, s.held = false →
    s.windowRead 0x044 = s.eu.enable.setWidth 32 ∧ s.windowRead 0x054 = s.eu.senable.setWidth 32 ∧
    s.windowRead 0x048 = (s.evtRaw &&& s.eu.enable).setWidth 32 ∧
    s.windowRead 0x058 = (s.sevtRaw &&& s.eu.senable).setWidth 32) ∧
  (∀ s : State, s.deviceReset.eu.enable = 0 ∧ s.deviceReset.eu.senable = 0 ∧
    s.linkDownClear.eu.enable = s.eu.enable ∧ s.linkDownClear.eu.senable = s.eu.senable) ∧
  (∀ s : State, s.irq = true ↔
    (∃ i, i < 12 ∧ s.evtPending.getLsbD i = true) ∨ (∃ i, i < 16 ∧ s.sevtPending.getLsbD i = true)) ∧
  (∀ s : State, s.held = false → s.irqPin = s.irq) ∧
  (∀ s : State, s.deviceReset.irq = false ∧ s.deviceReset.irqPin = false)

/-- An access fault fills a record that is not valid and leaves a valid one, raises FAULT_COUNT by 1 up to 255, raises
ACCESS_FAULT, and changes nothing else. The stream field is present for an offset in a stream's block or its data port
(R155, R156). -/
def Obligations.AccessFaultRecorded : Prop :=
  ∀ (s : State) (c : FaultCause) (o : WinOffset) (d : Option EnableDetail), ∃ t, s.accessFault c o d = t ∧
    t = { s with eu := { s.eu with fault := t.eu.fault, faultCount := t.eu.faultCount, sticky := t.eu.sticky } } ∧
    (∀ f, s.eu.fault = some f → t.eu.fault = some f) ∧
    (s.eu.fault = none → ∃ f, t.eu.fault = some f ∧ f.cause = c ∧ f.offset = o ∧ f.detail = d ∧
      (∀ n : Fin 8, (0x400 + 0x20 * n.val ≤ o.toNat ∧ o.toNat < 0x420 + 0x20 * n.val) ∨
        (0x800 + 4 * n.val ≤ o.toNat ∧ o.toNat < 0x804 + 4 * n.val) → f.stream = some n) ∧
      ((o.toNat < 0x400 ∨ (0x500 ≤ o.toNat ∧ o.toNat < 0x800) ∨ 0x820 ≤ o.toNat) → f.stream = none)) ∧
    t.eu.faultCount.toNat = min (s.eu.faultCount.toNat + 1) 255 ∧
    (∀ i, i < 12 → t.eu.sticky.getLsbD i = (s.eu.sticky.getLsbD i || decide (i = 11)))

/-- A write to FAULT_RECORD clears the record and FAULT_COUNT and is no fault and leaves ACCESS_FAULT; FAULT_COUNT is
read-only; a clear before a fault leaves the fault recorded with count 1, a clear after it leaves none with count 0, and
ACCESS_FAULT is raised in both orders (R157). -/
def Obligations.FaultRecordCleared : Prop :=
  ∀ s : State, s.held = false →
    exec .faultRecordClear s = .next { s with eu := { s.eu with fault := none, faultCount := 0 } } ∧
    (∀ (w : Word) (l : BitVec 4), exec (.registerWrite 0x060 w l) s = exec .faultRecordClear s) ∧
    (∀ w : Word, exec (.registerWrite 0x064 w 15) s = .next (s.accessFault .readOnly 0x064)) ∧
    (∀ (c : FaultCause) (o : WinOffset) (d : Option EnableDetail),
      (s.clearFaultRecord.accessFault c o d).eu.fault =
        some { cause := c, offset := o, stream := streamOfOffset o, detail := d } ∧
      (s.clearFaultRecord.accessFault c o d).eu.faultCount = 1 ∧
      (s.clearFaultRecord.accessFault c o d).eu.sticky.getLsbD 11 = true ∧
      (s.accessFault c o d).clearFaultRecord.eu.fault = none ∧
      (s.accessFault c o d).clearFaultRecord.eu.faultCount = 0 ∧
      (s.accessFault c o d).clearFaultRecord.eu.sticky.getLsbD 11 = true)

/-- A write to GAP_POP removes the head of the gap list, or on an empty list records EMPTY_POP at GAP_POP and changes
nothing else; GAP_READY follows the list. With 1 to 15 records a pop and a record handed over commute; with none the
order decides whether the record stays; with 16 it decides whether the record is kept or discarded. The link-down clear
keeps the list and a device reset empties it (R159). -/
def Obligations.GapPopTakesHead : Prop :=
  (∀ s : State, s.held = false →
    (∀ g rest, s.eu.gaps = g :: rest →
      exec .gapPop s = .next { s with eu := { s.eu with gaps := rest } } ∧
      (∀ x : State, exec .gapPop s = .next x → (x.evtRaw.getLsbD 9 = true ↔ rest ≠ []))) ∧
    (s.eu.gaps = [] → exec .gapPop s = .next (s.accessFault .emptyPop 0x078))) ∧
  (∀ (s : State) (g : GapRecord),
    (s.eu.gaps.length ≤ 15 → s.eu.gaps ≠ [] → (s.recordGap g).popGap.eu.gaps = (s.popGap.recordGap g).eu.gaps) ∧
    (s.eu.gaps = [] → (s.recordGap g).popGap.eu.gaps = [] ∧ (s.popGap.recordGap g).eu.gaps = [g]) ∧
    (s.eu.gaps.length = 16 → (s.popGap.recordGap g).eu.gaps = s.eu.gaps.tail ++ [g] ∧
      (s.recordGap g).popGap.eu.gaps = s.eu.gaps.tail ∧ (s.recordGap g).popGap.eu.sticky.getLsbD 10 = true)) ∧
  (∀ s : State, s.linkDownClear.eu.gaps = s.eu.gaps ∧ s.deviceReset.eu.gaps = [] ∧ s.deviceReset.evtRaw = 0)

/-! ### The change list, the commit and the survey -/

/-- CHG_APPEND judges in the order LIST_BUSY, LIST_FULL, FIELD_INVALID, accepted; an accepted append puts the record the
staging words spell at the tail, and a refused one leaves the list (R85, R87). -/
def Obligations.AppendJudged : Prop :=
  ∀ s : State, s.held = false →
    let w0 := s.cl.stage0
    let kind := w0.extractLsb' 0 2
    let slot := slotOf (w0.extractLsb' 4 5)
    let owner := w0.extractLsb' 12 4
    let code := w0.extractLsb' 20 3
    let start := s.cl.stage1.extractLsb' 0 11
    let append (c : Change) : State := { s with cl := { s.cl with list := s.cl.list ++ [c] } }
    (s.ce.phase ≠ .idle → exec .chgAppend s = .next (s.accessFault .listBusy 0x0A8)) ∧
    (s.ce.phase = .idle → 16 ≤ s.cl.list.length → exec .chgAppend s = .next (s.accessFault .listFull 0x0A8)) ∧
    (s.ce.phase = .idle → s.cl.list.length < 16 →
      (kind = 3 → exec .chgAppend s = .next (s.accessFault .fieldInvalid 0x0A8)) ∧
      (kind = 0 → (5 ≤ code.toNat ∨ start.toNat < 128 ∨ owner = 0 ∨ owner = 15) →
        exec .chgAppend s = .next (s.accessFault .fieldInvalid 0x0A8)) ∧
      (kind = 2 → start.toNat < 128 → exec .chgAppend s = .next (s.accessFault .fieldInvalid 0x0A8)) ∧
      (kind = 1 → exec .chgAppend s = .next (append (.drop slot))) ∧
      (kind = 2 → 128 ≤ start.toNat → exec .chgAppend s = .next (append (.move slot start))) ∧
      (kind = 0 → code.toNat ≤ 4 → 128 ≤ start.toNat → owner ≠ 0 → owner ≠ 15 →
        ∃ r : SlotRecord, exec .chgAppend s = .next (append (.add slot r)) ∧ r.start = start ∧
          r.owner.val + 1 = owner.toNat ∧ r.port.val = (w0.extractLsb' 16 3).toNat ∧ r.dir.bit = w0.getLsbD 19 ∧
          r.width.code = code ∧ r.stream.val = (w0.extractLsb' 24 3).toNat ∧
          r.lane.val = (w0.extractLsb' 28 3).toNat))

/-- CHG_CLEAR, of any value, empties the list in phase IDLE, so that the count reads 0 and every view reads empty, also
for a list already empty and with no fault; in any other phase it is refused LIST_BUSY with the list unchanged. A failed
commit leaves the list (R88). -/
def Obligations.ChangeListCleared : Prop :=
  (∀ s : State, s.held = false →
    (s.ce.phase = .idle → exec .chgClear s = .next { s with cl := { s.cl with list := [] } } ∧
      (∀ (w : Word) (l : BitVec 4), exec (.registerWrite 0x0AC w l) s = exec .chgClear s) ∧
      ∀ t, exec .chgClear s = .next t → t.windowRead 0x0B0 = 0 ∧
        ∀ (i : Fin 16) (second : Bool), t.regWord (.changeView i second) = 0) ∧
    (s.ce.phase ≠ .idle → exec .chgClear s = .next (s.accessFault .listBusy 0x0AC))) ∧
  (∀ (s : State) (a : NodeAddr) (o : CmdOutcome) (n : Nat),
    (s.stagingFailed a o).cl = s.cl ∧ (s.abortLinkStop n).cl = s.cl ∧ s.countCopy.cl = s.cl)

/-- A write to COMMIT, taken as the first case that applies: a mode that names neither is FIELD_INVALID; any mode outside
phase IDLE is STATE_REFUSED; CHECK validates at once and records its verdict (SLOT_NUMBER with the change index, EMPTY
with nothing, a final-map reason with the slot number, CHECKED for a pass; mode CHECK and every other field absent) with
COMMIT_DONE; APPLY outside UP is recorded REFUSED, LINK_NOT_UP, with COMMIT_DONE; APPLY in UP makes the phase PENDING, the
counts 0 and the record blank but for its mode, and from then on the change list is LIST_BUSY (R96, R98, R106). -/
def Obligations.CommitWriteJudged : Prop :=
  (∀ s : State, s.held = false →
     let blank : CommitResult :=
       { mode := some .apply, outcome := .none, reason := none, changeIndex := none, slot := none, node := none,
         acked := none, switchFrame := none, generation := none }
     let done : EventUnit := { s.eu with sticky := s.eu.sticky ||| 0x080 }
     (∀ w : Word, (w.extractLsb' 0 2 = 0 ∨ w.extractLsb' 0 2 = 3) →
       exec (.registerWrite 0x030 w 15) s = .next (s.accessFault .fieldInvalid 0x030)) ∧
     (∀ w : Word, w.extractLsb' 0 2 = 1 → exec (.registerWrite 0x030 w 15) s = exec .commitCheck s) ∧
     (∀ w : Word, w.extractLsb' 0 2 = 2 → exec (.registerWrite 0x030 w 15) s = exec .commitApply s) ∧
     (s.ce.phase ≠ .idle → exec .commitCheck s = .next (s.accessFault .stateRefused 0x030) ∧
       exec .commitApply s = .next (s.accessFault .stateRefused 0x030)) ∧
     (s.ce.phase = .idle → exec .commitCheck s = .next { s with
       ce := { s.ce with result := s.validate.result .check .checked }, eu := done }) ∧
     (s.ce.phase = .idle → s.fe.link ≠ .up → exec .commitApply s = .next { s with
       ce := { s.ce with result := { blank with outcome := .refused, reason := some .linkNotUp } }, eu := done }) ∧
     (s.ce.phase = .idle → s.fe.link = .up → exec .commitApply s = .next { s with
       ce := { s.ce with phase := .pending, acked := 0, copies := 0, result := blank } }) ∧
     (∀ u : State, s.ce.phase = .idle → s.fe.link = .up → exec .commitApply s = .next u →
       exec .chgAppend u = .next (u.accessFault .listBusy 0x0A8) ∧
       exec .chgClear u = .next (u.accessFault .listBusy 0x0AC))) ∧
  (∀ v : Verdict,
    let record (o : CommitOutcome) (reason : Option Reason) (i : Option Nat) (k : Option (Fin 32)) : CommitResult :=
      { mode := some .check, outcome := o, reason := reason, changeIndex := i, slot := k, node := none, acked := none,
        switchFrame := none, generation := none }
    v.result .check .checked = match v with
    | .refusedEmpty => record .refused (some .empty) none none
    | .refusedSlotNumber i => record .refused (some .slotNumber) (some i) none
    | .refusedCheck reason k => record .refused (some reason) none (some k)
    | .unchanged => record .checked none none none
    | .changed _ => record .checked none none none)

/-- Validation. An empty list is refused EMPTY. The sequential pass takes the records in order: an ADD needs its slot
number unused and puts its record, a DROP and a MOVE need it used and take it away or move its start, and the first record
that fails is refused SLOT_NUMBER with its change index. Then the eight checks are applied to the final map one at a time
in their order; the first that any record fails refuses, with its reason and the lowest slot number that fails it; with
none failing, a map equal to the active map is unchanged and any other is changed. So a map passed as changed holds records
that lie within the frame length, share no bit position, have owners READY or PARKED with the port and the width, do not
clash on owner, direction and port, have their stream's direction and width, hold distinct lanes below their number, and
fit an enabled stream's capacity (R91 to R95). -/
def Obligations.ValidatedMapPassesEveryCheck : Prop :=
  (∀ (list : List Change) (active : SlotTable) (len : Nat) (nd : Directory) (ss : Vector Machine.Stream 8)
     (m : SlotTable), Machine.validate list active len nd ss = .changed m →
     list ≠ [] ∧ m ≠ active ∧
     (∀ (k : Fin 32) (r : SlotRecord), m[k] = some r →
       r.start.toNat + r.width.bits ≤ len ∧
       (nd[r.owner].state = .ready ∨ nd[r.owner].state = .parked) ∧
       (∃ c, nd[r.owner].caps = some c ∧ r.port.val < portCount c.a r.dir ∧
         c.b.getLsbD r.width.code.toNat = true) ∧
       r.dir = ss[r.stream].dir ∧ r.width = ss[r.stream].width ∧
       r.lane.val < recordCount m r.stream ∧
       (ss[r.stream].enabled = true → recordCount m r.stream ≤ ss[r.stream].capacity)) ∧
     (∀ (j k : Fin 32) (r r' : SlotRecord), j ≠ k → m[j] = some r → m[k] = some r' →
       (r.start.toNat + r.width.bits ≤ r'.start.toNat ∨ r'.start.toNat + r'.width.bits ≤ r.start.toNat) ∧
       ¬(r.owner = r'.owner ∧ r.dir = r'.dir ∧ r.port = r'.port) ∧
       (r.stream = r'.stream → r.lane ≠ r'.lane))) ∧
  -- the sequential pass, record by record
  (∀ (i : Nat) (m : SlotTable), applyChanges [] i m = .ok m) ∧
  (∀ (c : Change) (rest : List Change) (i : Nat) (m : SlotTable),
     let refused : Prop := applyChanges (c :: rest) i m = .error i
     let taken (k : Fin 32) (x : Option SlotRecord) : Prop :=
       applyChanges (c :: rest) i m = applyChanges rest (i + 1) (upd m k x)
     (∀ k r, c = .add k r → (m[k] = none → taken k (some r)) ∧ (m[k] ≠ none → refused)) ∧
     (∀ k, c = .drop k → (m[k] ≠ none → taken k none) ∧ (m[k] = none → refused)) ∧
     (∀ k st, c = .move k st → (∀ r, m[k] = some r → taken k (some { r with start := st })) ∧
       (m[k] = none → refused))) ∧
  -- the verdict
  (∀ (list : List Change) (active : SlotTable) (len : Nat) (nd : Directory) (ss : Vector Machine.Stream 8),
     (list = [] → Machine.validate list active len nd ss = .refusedEmpty) ∧
     (∀ i, list ≠ [] → applyChanges list 0 active = .error i →
       Machine.validate list active len nd ss = .refusedSlotNumber i) ∧
     (∀ m : SlotTable, list ≠ [] → applyChanges list 0 active = .ok m →
       let count (n : Fin 8) : Nat := ((List.finRange 32).filter fun k => match m[k] with
         | some r => decide (r.stream = n)
         | none => false).length
       let fails (reason : Reason) (k : Fin 32) : Prop := ∃ r, m[k] = some r ∧ match reason with
         | .range => len < r.start.toNat + r.width.bits
         | .overlap => ∃ (j : Fin 32) (r' : SlotRecord), k < j ∧ m[j] = some r' ∧
             r.start.toNat < r'.start.toNat + r'.width.bits ∧ r'.start.toNat < r.start.toNat + r.width.bits
         | .owner => nd[r.owner].state = .free ∨ nd[r.owner].state = .bound ∨ nd[r.owner].state = .lost
         | .capability => ∀ c, nd[r.owner].caps = some c →
             (match r.dir with
               | .capture => (c.a.extractLsb' 0 4).toNat
               | .playback => (c.a.extractLsb' 4 4).toNat) ≤ r.port.val ∨ c.b.getLsbD r.width.code.toNat = false
         | .portClash => ∃ (j : Fin 32) (r' : SlotRecord), k < j ∧ m[j] = some r' ∧
             r'.owner = r.owner ∧ r'.dir = r.dir ∧ r'.port = r.port
         | .streamMismatch => r.dir ≠ ss[r.stream].dir ∨ r.width ≠ ss[r.stream].width
         | .lane => count r.stream ≤ r.lane.val ∨ ∃ (j : Fin 32) (r' : SlotRecord), j < k ∧ m[j] = some r' ∧
             r'.stream = r.stream ∧ r'.lane = r.lane
         | .capacity => ss[r.stream].state ≠ .disabled ∧ ss[r.stream].capacity < count r.stream
         | _ => False
       let order : List Reason :=
         [.range, .overlap, .owner, .capability, .portClash, .streamMismatch, .lane, .capacity]
       (∀ (before after : List Reason) (reason : Reason) (k : Fin 32), order = before ++ reason :: after →
         (∀ x ∈ before, ∀ j, ¬fails x j) → fails reason k → (∀ j, j < k → ¬fails reason j) →
         Machine.validate list active len nd ss = .refusedCheck reason k) ∧
       ((∀ reason k, ¬fails reason k) →
         Machine.validate list active len nd ss = if m = active then .unchanged else .changed m)))

/-- SURVEY_START is accepted in UP with no survey running: the state becomes SEEKING, the record RUNNING with its four
counts 0, no event raised. Otherwise it is STATE_REFUSED. A write to SURVEY with the start bit 0 does nothing, and SURVEY
reads 0 (R69). -/
def Obligations.SurveyStartJudged : Prop :=
  ∀ s : State, s.held = false →
    (s.fe.link = .up → (s.sv.state = .idle ∨ s.sv.state = .finished) → exec .surveyStart s = .next { s with
      sv := { s.sv with state := .seeking
                        result := { outcome := .running, joined := 0, rejoined := 0, failed := 0,
                                    electionFailures := 0 } } }) ∧
    ((s.fe.link ≠ .up ∨ s.sv.state = .seeking ∨ s.sv.state = .elected ∨ s.sv.state = .binding) →
      exec .surveyStart s = .next (s.accessFault .stateRefused 0x020)) ∧
    (∀ w : Word, w.getLsbD 0 = true → exec (.registerWrite 0x020 w 15) s = exec .surveyStart s) ∧
    (∀ w : Word, w.getLsbD 0 = false → exec (.registerWrite 0x020 w 15) s = .next s) ∧
    s.windowRead 0x020 = 0

/-! ### The request queue -/

/-- REQ_SUBMIT judges QUEUE_FULL, FIELD_INVALID, accepted; an accepted request carries the tag, the address and the
fields its kind has, and stands at the tail (R141, R142). -/
def Obligations.SubmissionJudged : Prop :=
  ∀ s : State, s.held = false →
    let w0 := s.rq.stage0
    let kind := w0.extractLsb' 8 3
    let addr := w0.extractLsb' 12 4
    let op : ReqOp :=
      if kind = 0 then .nodeRead (w0.extractLsb' 16 8)
      else if kind = 1 then .nodeWrite (w0.extractLsb' 16 8) (s.rq.stage1.extractLsb' 0 16)
      else if kind = 2 then .park else if kind = 3 then .resume else if kind = 4 then .release else .ping
    (8 ≤ s.rq.queue.length → exec .reqSubmit s = .next (s.accessFault .queueFull 0x088)) ∧
    (s.rq.queue.length < 8 → (6 ≤ kind.toNat ∨ addr = 0 ∨ addr = 15) →
      exec .reqSubmit s = .next (s.accessFault .fieldInvalid 0x088)) ∧
    (s.rq.queue.length < 8 → kind.toNat ≤ 5 → addr ≠ 0 → addr ≠ 15 →
      ∃ a : NodeAddr, a.val + 1 = addr.toNat ∧ exec .reqSubmit s = .next { s with
        rq := { s.rq with queue := s.rq.queue ++ [{ op := op, addr := a, tag := w0.extractLsb' 0 8 }] } })

/-- REQ_FLUSH removes every request but the one in flight, writes the discard field with the number removed and cause
FLUSH, and changes nothing else. CPL_POP removes the head completion and nothing else; on an empty list it is EMPTY_POP.
CPL_READY is 1 exactly while the list holds a record (R144, R149, R152). -/
def Obligations.FlushAndCompletionPop : Prop :=
  (∀ s : State, s.held = false →
     ((∀ r, s.cx.inFlight = some r → r.source ≠ .request) → exec .reqFlush s = .next { s with
       rq := { s.rq with queue := [], discard := { count := s.rq.queue.length, cause := .flush } } }) ∧
     (∀ (r : InFlight) (q : Request) (rest : List Request), s.cx.inFlight = some r → r.source = .request →
       s.rq.queue = q :: rest → exec .reqFlush s = .next { s with
         rq := { s.rq with queue := [q], discard := { count := rest.length, cause := .flush } } })) ∧
  (∀ s : State, s.held = false →
     (∀ c rest, s.rq.completions = c :: rest →
       exec .cplPop s = .next { s with rq := { s.rq with completions := rest } }) ∧
     (s.rq.completions = [] → exec .cplPop s = .next (s.accessFault .emptyPop 0x098)) ∧
     (s.evtRaw.getLsbD 8 = true ↔ s.rq.completions ≠ []))

/-! ### Streams and data ports -/

/-- A write to a stream's CFG is STATE_LOCKED on an enabled stream, FIELD_INVALID for a bad width, capacity or packing,
POOL_EXCEEDED where the eight capacities would pass 1024, and otherwise taken whole with nothing else changed (R113). -/
def Obligations.StreamCfgJudged : Prop :=
  ∀ (s : State) (n : Fin 8) (w : Word), s.held = false →
    let code := w.extractLsb' 1 3
    let capacity := (w.extractLsb' 16 10).toNat
    let at' : WinOffset := 0x400 + 0x20 * BitVec.ofNat 12 n.val
    let valid := code.toNat ≤ 4 ∧ capacity ≤ 512 ∧ capacity % 8 = 0 ∧ (w.getLsbD 4 = true → code.toNat ≤ 1)
    let others := ((List.finRange 8).filter fun k => k ≠ n).foldl (fun acc k => acc + s.su.streams[k].capacity) 0
    (s.su.streams[n].state ≠ .disabled → exec (.streamCfg n w) s = .next (s.accessFault .stateLocked at')) ∧
    (s.su.streams[n].state = .disabled → ¬valid →
      exec (.streamCfg n w) s = .next (s.accessFault .fieldInvalid at')) ∧
    (s.su.streams[n].state = .disabled → valid → 1024 < capacity + others →
      exec (.streamCfg n w) s = .next (s.accessFault .poolExceeded at')) ∧
    (s.su.streams[n].state = .disabled → valid → capacity + others ≤ 1024 →
      ∃ (t : State) (width : Width), exec (.streamCfg n w) s = .next t ∧ width.code = code ∧
        t = { s with su := { s.su with streams := t.su.streams } } ∧
        (∀ k : Fin 8, k ≠ n → t.su.streams[k] = s.su.streams[k]) ∧
        t.su.streams[n] = { s.su.streams[n] with
          dir := if w.getLsbD 0 = true then .playback else .capture
          width := width, capacity := capacity, packing := w.getLsbD 4, signExt := w.getLsbD 5
          fillMode := if w.getLsbD 6 = true then .hold else .zero })

/-- A write to a stream's LEVELS is taken in every state, sets the three levels and nothing else but the request line,
judged again; the effective value of a level is the capacity where it is 0 or above the capacity, worked out at each use;
LEVELS reads as written; SERVICE follows the new level at once. SERVICE[n] is 1 exactly while the stream is enabled and
the fill of a CAPTURE stream, or the free count of a PLAYBACK stream, is at least the effective service level; a judgement
of DRQ[n] gives 1 exactly while the DMA bit is on, the stream is enabled, and the same count is at least the effective
burst (R114, R127, R139). -/
def Obligations.LevelsTaken : Prop :=
  (∀ (s : State) (n : Fin 8) (w : Word), s.held = false → ∃ t, exec (.streamLevels n w) s = .next t ∧
    t = { s with su := { s.su with streams := t.su.streams } } ∧
    (∀ k : Fin 8, k ≠ n → t.su.streams[k] = s.su.streams[k]) ∧
    t.su.streams[n] = { s.su.streams[n] with
      service := w.extractLsb' 0 10, burst := w.extractLsb' 10 10, startLevel := w.extractLsb' 20 10
      drq := t.su.streams[n].drqLevel } ∧
    t.regWord (.streamLevels n) = w &&& 0x3FFFFFFF ∧
    t.serviceBits.getLsbD n.val = t.su.streams[n].serviceLevel) ∧
  (∀ (st : Machine.Stream) (level : BitVec 10),
    (level = 0 → st.effective level = st.capacity) ∧
    (st.capacity < level.toNat → st.effective level = st.capacity) ∧
    (level ≠ 0 → level.toNat ≤ st.capacity → st.effective level = level.toNat)) ∧
  (∀ st : Machine.Stream,
    let reached (level : BitVec 10) : Prop :=
      (st.dir = .capture ∧ st.effective level ≤ st.queue.length) ∨
      (st.dir = .playback ∧ st.effective level ≤ st.capacity - st.queue.length)
    (st.serviceLevel = true ↔ st.state ≠ .disabled ∧ reached st.service) ∧
    (st.drqLevel = true ↔ st.dma = true ∧ st.state ≠ .disabled ∧ reached st.burst)) ∧
  (∀ (s : State) (n : Fin 8), s.serviceBits.getLsbD n.val = s.su.streams[n].serviceLevel)

/-- An ENABLE of a DISABLED stream that no case of R117 refuses: queue, counter, hold values, xrun flag and half flag
cleared, the live set the stream's records with READY owners, RUNNING for CAPTURE and PRIMING for PLAYBACK, the DMA bit
as written, and a START record one frame ahead at the tail of the gap list, or GAP_OVERFLOW for a full list. An ENABLE of
an enabled stream changes the DMA bit and the line alone (R116, R118, R136). -/
def Obligations.StreamEnabled : Prop :=
  ∀ (s : State) (n : Fin 8) (dma : Bool), s.held = false →
    let st := s.su.streams[n]
    let live := (List.finRange 32).filter fun k => match s.sm.active[k] with
      | some r => decide (r.stream = n) && decide (s.nd[r.owner].state = .ready)
      | none => false
    let fresh : Machine.Stream :=
      { st with dma := dma, queue := [], counter := 0, hold := Vector.replicate 8 0, xrun := false, live := live
                half := false, sinceStart := false
                state := match st.dir with
                  | .capture => .running
                  | .playback => .priming }
    let start : GapRecord :=
      { stream := n, kind := .start, frame := s.fe.frameNo + 1, index := 0, lanes := some live.length }
    (st.state = .disabled → st.capacity ≠ 0 →
      (∀ m, m = s.sm.active ∨ s.ce.pending = some m → recordCount m n ≤ st.capacity ∧
        ∀ (k : Fin 32) (r : SlotRecord), m[k] = some r → r.stream = n → r.dir = st.dir ∧ r.width = st.width) →
      ∃ t, exec (.streamEnable n dma) s = .next t ∧ t = { s with su := t.su, eu := t.eu } ∧
        t.su.drives = s.su.drives ∧ t.su.streams[n] = { fresh with drq := fresh.drqLevel } ∧
        (∀ k : Fin 8, k ≠ n → t.su.streams[k] = s.su.streams[k]) ∧
        (s.eu.gaps.length < 16 → t.eu = { s.eu with gaps := s.eu.gaps ++ [start] }) ∧
        (16 ≤ s.eu.gaps.length → t.eu = { s.eu with sticky := s.eu.sticky ||| 0x400 })) ∧
    (st.state ≠ .disabled → exec (.streamEnable n dma) s = exec (.dmaEnable n dma) s)

/-- An ENABLE of a DISABLED stream is refused with the first detail that holds: NO_CAPACITY, CAPACITY_SHORT against the
active or a pending map, MISMATCH against either; only the DMA bit and the line change. DISABLE makes an enabled stream
DISABLED with an empty queue and its line low, keeping the counter, the counts, the hold values, the xrun flag and the
live set, with no gap record; on a DISABLED stream it has no effect but the DMA bit. A CTRL write with no action changes
the DMA bit and judges the line again; ENABLE and DISABLE together are STATE_REFUSED (R116, R117, R119, R139). -/
def Obligations.StreamControlTaken : Prop :=
  (∀ (s : State) (n : Fin 8) (dma : Bool), s.held = false → s.su.streams[n].state = .disabled →
     let st := s.su.streams[n]
     let at' : WinOffset := 0x408 + 0x20 * BitVec.ofNat 12 n.val
     let refused (d : EnableDetail) : Prop := ∃ t, exec (.dmaEnable n dma) s = .next t ∧
       exec (.streamEnable n dma) s = .next (t.accessFault .enableRefused at' (some d))
     let short : Prop := ∃ m, (m = s.sm.active ∨ s.ce.pending = some m) ∧ st.capacity < recordCount m n
     let mismatch : Prop := ∃ m, (m = s.sm.active ∨ s.ce.pending = some m) ∧
       ∃ (k : Fin 32) (r : SlotRecord), m[k] = some r ∧ r.stream = n ∧ (r.dir ≠ st.dir ∨ r.width ≠ st.width)
     (st.capacity = 0 → refused .noCapacity) ∧
     (st.capacity ≠ 0 → short → refused .capacityShort) ∧
     (st.capacity ≠ 0 → ¬short → mismatch → refused .mismatch)) ∧
  (∀ (s : State) (n : Fin 8) (dma : Bool), s.held = false →
     let st := s.su.streams[n]
     (∃ t, exec (.streamDisable n dma) s = .next t ∧ t = { s with su := { s.su with streams := t.su.streams } } ∧
       (∀ k : Fin 8, k ≠ n → t.su.streams[k] = s.su.streams[k]) ∧
       (st.state ≠ .disabled → t.su.streams[n] =
         { st with dma := dma, state := .disabled, queue := [], sinceStart := false, drq := false }) ∧
       (st.state = .disabled → t.su.streams[n] = { st with dma := dma, drq := false })) ∧
     (∃ t, exec (.dmaEnable n dma) s = .next t ∧ t = { s with su := { s.su with streams := t.su.streams } } ∧
       (∀ k : Fin 8, k ≠ n → t.su.streams[k] = s.su.streams[k]) ∧
       t.su.streams[n] = { st with dma := dma, drq := ({ st with dma := dma } : Machine.Stream).drqLevel }) ∧
     (∀ w : Word, w.getLsbD 0 = true → w.getLsbD 1 = true →
       exec (.registerWrite (0x408 + 0x20 * BitVec.ofNat 12 n.val) w 15) s =
         .next (s.accessFault .stateRefused (0x408 + 0x20 * BitVec.ofNat 12 n.val))))

/-- A read of the port of an enabled CAPTURE stream: with packing off the head sample, extended to the word; with packing
on the two at the head, the older in the low half, or the one there is with the half flag set; an empty queue returns 0
with DRY. A DISABLED stream gives STREAM_DISABLED and a PLAYBACK stream WRONG_DIRECTION, each returning 0 and changing
nothing else. A sample is extended with zeros above its w bits, or with copies of bit w - 1 with sign extension on, to the
word or to one half of a packed word (R131, R132, R133, R136; that the word read is left in `readData` is the model's choice, log entry 12). -/
def Obligations.CaptureReadReturnsHead : Prop :=
  (∀ (s : State) (n : Fin 8), s.held = false →
     let st := s.su.streams[n]
     let at' : WinOffset := 0x800 + 4 * BitVec.ofNat 12 n.val
     let zero : State := { s with readData := 0 }
     let took (w : Word) (st' : Machine.Stream) : Prop := ∃ t, exec (.captureRead n) s = .next t ∧ t.readData = w ∧
       t.su.streams[n] = { st' with drq := st'.drqLevel } ∧ (∀ k : Fin 8, k ≠ n → t.su.streams[k] = s.su.streams[k]) ∧
       t = { s with readData := w, su := { s.su with streams := t.su.streams } }
     (st.state = .disabled → exec (.captureRead n) s = .next (zero.accessFault .streamDisabled at')) ∧
     (st.state ≠ .disabled → st.dir = .playback →
       exec (.captureRead n) s = .next (zero.accessFault .wrongDirection at')) ∧
     (st.state ≠ .disabled → st.dir = .capture →
       (st.queue = [] → exec (.captureRead n) s = .next (zero.accessFault .dry at')) ∧
       (∀ a rest, st.packing = false → st.queue = a :: rest → took (st.width.extend st.signExt a) { st with queue := rest }) ∧
       (∀ a, st.packing = true → st.queue = [a] →
         took ((st.width.extendHalf st.signExt a).setWidth 32) { st with queue := [], half := true }) ∧
       (∀ a b rest, st.packing = true → st.queue = a :: b :: rest →
         took (st.width.extendHalf st.signExt b ++ st.width.extendHalf st.signExt a)
           { st with queue := rest, half := false }))) ∧
  (∀ (w : Width) (x : Sample) (i : Nat), i < 32 →
     (w.extend false x).getLsbD i = (decide (i < w.bits) && x.getLsbD i) ∧
     (w.extend true x).getLsbD i = (if i < w.bits then x.getLsbD i else x.getLsbD (w.bits - 1)) ∧
     (w.lowBits x).getLsbD i = (decide (i < w.bits) && x.getLsbD i)) ∧
  (∀ (w : Width) (x : Sample) (i : Nat), i < 16 →
     (w.extendHalf false x).getLsbD i = (decide (i < w.bits) && x.getLsbD i) ∧
     (w.extendHalf true x).getLsbD i = (if i < w.bits then x.getLsbD i else x.getLsbD (w.bits - 1)))

/-- A write to the port of an enabled PLAYBACK stream: with packing off the low w bits go to the tail where an entry is
free, else SPILL; with packing on both halves where two are free, the low half alone with the half flag set and SPILL
where one is, and only SPILL where none is. A DISABLED stream gives STREAM_DISABLED and a CAPTURE stream WRONG_DIRECTION
(R131, R134, R135, R136). -/
def Obligations.PlaybackWriteAdds : Prop :=
  ∀ (s : State) (n : Fin 8) (w : Word), s.held = false →
    let st := s.su.streams[n]
    let at' : WinOffset := 0x800 + 4 * BitVec.ofNat 12 n.val
    let free := st.capacity - st.queue.length
    let lo := st.width.lowBits ((w.extractLsb' 0 16).setWidth 32)
    let hi := st.width.lowBits ((w.extractLsb' 16 16).setWidth 32)
    let added (t : State) (st' : Machine.Stream) : Prop :=
      t.su.streams[n] = { st' with drq := st'.drqLevel } ∧ (∀ k : Fin 8, k ≠ n → t.su.streams[k] = s.su.streams[k]) ∧
      t = { s with su := { s.su with streams := t.su.streams } }
    (st.state = .disabled → exec (.playbackWrite n w) s = .next (s.accessFault .streamDisabled at')) ∧
    (st.state ≠ .disabled → st.dir = .capture →
      exec (.playbackWrite n w) s = .next (s.accessFault .wrongDirection at')) ∧
    (st.state ≠ .disabled → st.dir = .playback →
      (st.packing = false → 1 ≤ free → ∃ t, exec (.playbackWrite n w) s = .next t ∧
        added t { st with queue := st.queue ++ [st.width.lowBits w] }) ∧
      (st.packing = true → 2 ≤ free → ∃ t, exec (.playbackWrite n w) s = .next t ∧
        added t { st with queue := st.queue ++ [lo, hi], half := false }) ∧
      (st.packing = true → free = 1 → ∃ t : State, exec (.playbackWrite n w) s = .next (t.accessFault .spill at') ∧
        added t { st with queue := st.queue ++ [lo], half := true }) ∧
      (free = 0 → ∃ t : State, exec (.playbackWrite n w) s = .next (t.accessFault .spill at') ∧ t.su.streams[n] = st ∧
        (∀ k : Fin 8, k ≠ n → t.su.streams[k] = s.su.streams[k]) ∧ t = { s with su := { s.su with streams := t.su.streams } }))

/-! ### The Host Port -/

/-- A write of the window goes to the register of its word: the staging words take their fields, a read-only word is
READ_ONLY and unchanged, and every other word does what the row of its register does. A narrow write supplies 0 in the
bytes it does not carry (R86, R141, R160, R161, R162). -/
def Obligations.RegisterWritesReachTheirRows : Prop :=
  ∀ (s : State) (w : Word), s.held = false →
    (∀ r : Reg, r.isReadOnly = true →
      exec (.registerWrite r.offset w 15) s = .next (s.accessFault .readOnly r.offset)) ∧
    exec (.registerWrite 0x0A0 w 15) s = .next { s with cl := { s.cl with stage0 := w &&& 0x777FF1F3 } } ∧
    exec (.registerWrite 0x0A4 w 15) s = .next { s with cl := { s.cl with stage1 := w &&& 0x000007FF } } ∧
    exec (.registerWrite 0x080 w 15) s = .next { s with rq := { s.rq with stage0 := w &&& 0x00FFF7FF } } ∧
    exec (.registerWrite 0x084 w 15) s = .next { s with rq := { s.rq with stage1 := w &&& 0x0000FFFF } } ∧
    exec (.registerWrite 0x00C w 15) s = exec (.linkCfg w) s ∧
    exec (.registerWrite 0x010 w 15) s = exec (.xchgCfg w) s ∧
    exec (.registerWrite 0x018 w 15) s = exec .linkErrorsClear s ∧
    exec (.registerWrite 0x044 w 15) s = exec (.evtEnable w) s ∧
    exec (.registerWrite 0x04C w 15) s = exec (.evtClear w) s ∧
    exec (.registerWrite 0x054 w 15) s = exec (.sevtEnable w) s ∧
    exec (.registerWrite 0x05C w 15) s = exec (.sevtClear w) s ∧
    exec (.registerWrite 0x078 w 15) s = exec .gapPop s ∧
    exec (.registerWrite 0x088 w 15) s = exec .reqSubmit s ∧
    exec (.registerWrite 0x08C w 15) s = exec .reqFlush s ∧
    exec (.registerWrite 0x098 w 15) s = exec .cplPop s ∧
    exec (.registerWrite 0x0A8 w 15) s = exec .chgAppend s ∧
    (∀ n : Fin 8,
      exec (.registerWrite (Reg.streamCfg n).offset w 15) s = exec (.streamCfg n w) s ∧
      exec (.registerWrite (Reg.streamLevels n).offset w 15) s = exec (.streamLevels n w) s ∧
      exec (.registerWrite (Reg.streamCounts n).offset w 15) s = exec (.countsClear n) s ∧
      exec (.registerWrite (Reg.dataPort n).offset w 15) s = exec (.playbackWrite n w) s ∧
      (w.getLsbD 0 = true → w.getLsbD 1 = false →
        exec (.registerWrite (Reg.streamCtrl n).offset w 15) s = exec (.streamEnable n (w.getLsbD 4)) s) ∧
      (w.getLsbD 0 = false → w.getLsbD 1 = true →
        exec (.registerWrite (Reg.streamCtrl n).offset w 15) s = exec (.streamDisable n (w.getLsbD 4)) s) ∧
      (w.getLsbD 0 = false → w.getLsbD 1 = false →
        exec (.registerWrite (Reg.streamCtrl n).offset w 15) s = exec (.dmaEnable n (w.getLsbD 4)) s)) ∧
    (∀ (o : WinOffset) (l : BitVec 4),
      exec (.registerWrite o w l) s = exec (.registerWrite o (carriedWord w l) 15) s ∧
      ∀ i, i < 32 → (carriedWord w l).getLsbD i = (w.getLsbD i && l.getLsbD (i / 8)))

/-! ### The command field -/

/-- The row of the command a frame sends (IDENTIFY, ASSIGN, PING, READ, WRITE, SLOT_SET, SLOT_CLEAR, SWITCH, CANCEL, PARK,
RESUME, UNBIND) places it in the command field: target, code, sequence bit, the parameter and the check. What is sent is a
PING in stage RESYNC_PING and the command itself otherwise; the sequence bit is the directory's for a node and 0 for the
targets 0 and 15. A first SWITCH copy fixes the switch frame four frames on. Nothing else changes (R4, R9, R10, R36, R39,
R48, R103; the position of the frame is the model's own field, log entry 3). -/
def Obligations.SendingPlacesTheField : Prop :=
  (∀ (s : State) (r : InFlight), s.cx.inFlight = some r → s.fe.before .placed = true →
    let ce' : Commit := if r.sending = .switch ∧ s.ce.switchFrame = none then
      { s.ce with switchFrame := some (s.fe.frameNo + 4) } else s.ce
    let row : Instr := match r.sending with
      | .identify => .identify
      | .assign _ => .assign
      | .ping => .ping
      | .read _ => .read
      | .write _ _ => .write
      | .slotSet _ _ _ _ => .slotSet
      | .slotClear _ _ => .slotClear
      | .switch => .switch
      | .cancel => .cancel
      | .park => .park
      | .resume => .resume
      | .unbind => .unbind
    exec row s = .next { s with
      cx := { s.cx with field := some (fieldBits r.target.bits r.sending.code (s.seqBit r.target)
        (r.sending.param s.fe.frameNo (ce'.switchFrame.getD 0))) }
      fe := { s.fe with pos := .placed }
      ce := ce' }) ∧
  (∀ r : InFlight, (r.stage = .resyncPing → r.sending = .ping) ∧ (r.stage = .command → r.sending = r.cmd)) ∧
  (∀ s : State, (∀ a : NodeAddr, s.seqBit (.node a) = s.nd[a].seq) ∧ s.seqBit .unbound = false ∧
    s.seqBit .broadcast = false)

/-- The parts of a command field stand where chapter 11.1 puts them, most significant first: target, code, sequence bit,
spare 000, parameter, and the check over the first 40 bits; the codes of the kinds, the target bits (0 unbound, 1 to 14 a
node, 15 broadcast) and the parameter of each kind, with 0 for the five that have none, are the tables'. The check starts
at 0 and takes the bits first to last, each shifting the register left and XORing 07h where its top bit and the bit differ
(R4, R5, R6, R9). -/
def Obligations.CommandFieldLayout : Prop :=
  (∀ (t c : BitVec 4) (q : Bool) (p : BitVec 28),
    (fieldBits t c q p).extractLsb' 44 4 = t ∧ (fieldBits t c q p).extractLsb' 40 4 = c ∧
    (fieldBits t c q p).getLsbD 39 = q ∧ (fieldBits t c q p).extractLsb' 36 3 = 0 ∧
    (fieldBits t c q p).extractLsb' 8 28 = p ∧
    (fieldBits t c q p).extractLsb' 0 8 = crc8 ((fieldBits t c q p).extractLsb' 8 40)) ∧
  (∀ (f t : FrameNo) (a : NodeAddr) (reg : BitVec 8) (data : BitVec 16),
    (LinkCommand.assign a).param f t = BitVec.ofNat 28 (a.val + 1) ∧
    LinkCommand.ping.param f t = BitVec.ofNat 28 (f.toNat % 256) ∧
    (LinkCommand.read reg).param f t = BitVec.ofNat 28 reg.toNat ∧
    (LinkCommand.write reg data).param f t = BitVec.ofNat 28 (reg.toNat * 65536 + data.toNat) ∧
    LinkCommand.switch.param f t = BitVec.ofNat 28 t.toNat) ∧
  (∀ (f t : FrameNo) (p : Fin 8) (d : Dir) (w : Width) (st : BitVec 11),
    (LinkCommand.slotSet p d w st).param f t =
      BitVec.ofNat 28 (p.val * 32768 + d.bit.toNat * 16384 + w.code.toNat * 2048 + st.toNat) ∧
    (LinkCommand.slotClear p d).param f t = BitVec.ofNat 28 (p.val * 32768 + d.bit.toNat * 16384)) ∧
  (∀ f t : FrameNo, ∀ c ∈ [LinkCommand.identify, .cancel, .park, .resume, .unbind], c.param f t = 0) ∧
  (Dir.capture.bit = false ∧ Dir.playback.bit = true ∧
    [Width.w8, .w16, .w20, .w24, .w32].map Width.code = [0, 1, 2, 3, 4]) ∧
  (∀ (a : NodeAddr) (reg : BitVec 8) (data : BitVec 16) (p : Fin 8) (d : Dir) (w : Width) (st : BitVec 11),
    [LinkCommand.identify, .assign a, .ping, .read reg, .write reg data, .slotSet p d w st, .slotClear p d, .switch,
      .cancel, .park, .resume, .unbind].map LinkCommand.code = [1, 2, 3, 4, 5, 6, 7, 8, 9, 10, 11, 12] ∧
    Target.unbound.bits = 0 ∧ (Target.node a).bits = BitVec.ofNat 4 (a.val + 1) ∧ Target.broadcast.bits = 15) ∧
  (crc8 (0#0) = 0 ∧ ∀ (k : Nat) (x : BitVec k) (b : Bool), crc8 (x.concat b) =
    if ((crc8 x).getLsbD 7 ^^ b) = true then (crc8 x <<< 1) ^^^ 0x07 else crc8 x <<< 1)

/-- The end of the command field: an addressed command stays in progress, a frame with no command carries IDLE, a
broadcast copy is counted and is no longer in progress, and the third CANCEL copy makes the phase IDLE with COMMIT_DONE,
CANCEL_COMPLETE being the same moment (R4, R36, R103, R105; the position of the frame is the model's own field, log entry 3). -/
def Obligations.CommandFieldEnds : Prop :=
  ∀ s : State, s.fe.running = true →
    (∀ r, s.cx.inFlight = some r → r.target ≠ .broadcast → s.fe.pos = .placed →
      exec .commandFieldSent s = .next { s with fe := { s.fe with pos := .sent } }) ∧
    (s.cx.inFlight = none → (s.fe.pos = .started ∨ s.fe.pos = .compared) →
      exec .commandFieldSent s = .next { s with
        fe := { s.fe with pos := .sent }, cx := { s.cx with field := some (fieldBits 15 0 false 0) } }) ∧
    (∀ r, s.cx.inFlight = some r → r.target = .broadcast → s.fe.pos = .placed →
      ¬(s.ce.phase = .cancelling ∧ 2 ≤ s.ce.copies) → exec .commandFieldSent s = .next { s with
        fe := { s.fe with pos := .sent }, cx := { s.cx with inFlight := none }
        ce := { s.ce with copies := s.ce.copies + 1 } }) ∧
    (∀ r, s.cx.inFlight = some r → r.target = .broadcast → r.sending = .cancel → s.fe.pos = .placed →
      s.ce.phase = .cancelling → 2 ≤ s.ce.copies →
      let ended : State := { s with
        fe := { s.fe with pos := .sent }, cx := { s.cx with inFlight := none }
        ce := { s.ce with phase := .idle, copies := 0 }, eu := { s.eu with sticky := s.eu.sticky ||| 0x080 } }
      exec .commandFieldSent s = .next ended ∧ exec .cancelComplete s = .next ended)

/-! ### Frame start -/

/-- A frame start before the sixteenth sync frame has ended advances the frame number and the sync count and nothing
else; the one after it makes the link UP with LINK_UP raised (R23, R26). -/
def Obligations.SyncFramesCounted : Prop :=
  ∀ s : State, s.fe.link = .syncing →
    (s.fe.syncCount < 15 → exec .frameStart s = .next { s with
      fe := { s.fe with frameNo := s.fe.frameNo + 1, pos := .started, syncCount := s.fe.syncCount + 1 }
      cx := { s.cx with field := none }, su := { s.su with drives := [] } }) ∧
    (15 ≤ s.fe.syncCount → ∃ t, exec .syncComplete s = .next t ∧ exec .frameStart s = .next t ∧
      t.fe = { s.fe with link := .up, frameNo := s.fe.frameNo + 1, pos := .started
                         syncCount := s.fe.syncCount + 1 } ∧
      t.eu.sticky.getLsbD 0 = true)

/-- A frame start in UP or DRAINING forms the map in force: the pending map at the switch frame, else the active map,
less every record whose owner is neither READY nor PARKED; the generation rises by 1 where the result differs and stands
where it does not (R23, R80, R81, R82). -/
def Obligations.FrameStartFormsMap : Prop :=
  ∀ s : State, (s.fe.link = .up ∨ s.fe.link = .draining) → ∃ t, exec .frameStart s = .next t ∧
    t.fe = { s.fe with frameNo := s.fe.frameNo + 1, pos := .started } ∧
    (∀ base : SlotTable,
     (if s.ce.phase = .switching ∧ s.ce.switchFrame = some (s.fe.frameNo + 1) then s.ce.pending = some base
      else base = s.sm.active) →
     ∀ k : Fin 32, t.sm.active[k] = match base[k] with
      | some r => if s.nd[r.owner].state = .ready ∨ s.nd[r.owner].state = .parked then some r else none
      | none => none) ∧
    (t.sm.active = s.sm.active → t.sm.generation = s.sm.generation) ∧
    (t.sm.active ≠ s.sm.active → t.sm.generation = s.sm.generation + 1)

/-- The frame start of the switch frame completes the commit: the change list is emptied, the record reads APPLIED with
the switch frame and the generation after the formation, the pending map and T are gone, the phase is IDLE and
COMMIT_DONE is raised (R104). -/
def Obligations.SwitchInstalled : Prop :=
  ∀ (s : State) (m : SlotTable), (s.fe.link = .up ∨ s.fe.link = .draining) → s.ce.phase = .switching →
    s.ce.switchFrame = some (s.fe.frameNo + 1) → s.ce.pending = some m →
    ∃ t, exec .switchInstall s = .next t ∧ exec .frameStart s = .next t ∧ t.cl.list = [] ∧
      (∀ k : Fin 32, t.sm.active[k] = match m[k] with
        | some r => if s.nd[r.owner].state = .ready ∨ s.nd[r.owner].state = .parked then some r else none
        | none => none) ∧
      t.ce.phase = .idle ∧ t.ce.pending = none ∧ t.ce.switchFrame = none ∧
      t.ce.result = { mode := some .apply, outcome := .applied, reason := none, changeIndex := none, slot := none,
                      node := none, acked := none, switchFrame := some (s.fe.frameNo + 1),
                      generation := some t.sm.generation } ∧
      t.eu.sticky.getLsbD 7 = true

/-- A frame start that serves payload fixes the live set of each enabled stream: its records of the map in force whose
owners are READY. Where the set changes, a LANES_CHANGED record with the frame, the counter before the group and the new
size stands in the gap list, or GAP_OVERFLOW is raised. A disabled stream is left as it is (R120, R128). -/
def Obligations.LiveSetsFixed : Prop :=
  ∀ s : State, (s.fe.link = .up ∨ (s.fe.link = .draining ∧ s.fe.drainFromSync = false)) →
    ∃ t, exec .frameStart s = .next t ∧ ∀ n : Fin 8,
      (s.su.streams[n].state = .disabled → t.su.streams[n] = s.su.streams[n]) ∧
      (s.su.streams[n].state ≠ .disabled →
        t.su.streams[n].live = ((List.finRange 32).filter fun k => match t.sm.active[k] with
          | some r => decide (r.stream = n) && decide (s.nd[r.owner].state = .ready)
          | none => false) ∧
        (t.su.streams[n].live ≠ s.su.streams[n].live →
          { stream := n, kind := .lanesChanged, frame := s.fe.frameNo + 1, index := s.su.streams[n].counter
            lanes := some t.su.streams[n].live.length } ∈ t.eu.gaps ∨ t.eu.sticky.getLsbD 10 = true))

/-- What a frame start that serves payload does to each playback stream, with g its group in the map in force: a RUNNING
stream releases a whole group or, short of one, underruns; with no live lane it moves nothing. A PRIMING stream starts at
the first frame start at which its fill reaches its start level and a group, and otherwise waits. Each slot of g carries
the sample released for it or, where none is released, its lane's fill value: 0, or the hold value with fill mode HOLD. At
a release the hold value of each lane of g becomes the sample of its slot and every other lane keeps its own.
The records made, by ascending stream a LANES_CHANGED and then, at the first underrun of a run, an UNDERRUN with the frame
and the counter, stand in order at the tail of the gap list as far as it has room; GAP_OVERFLOW is raised for the rest.
The line: LCLK runs in SYNCING, UP and DRAINING with 2 x DIV periods of REFCLK to a bit, and a frame has 256 + 32 x n bits,
DIV and n those of the session; the hub drives B2h, the frame number and the command field most
significant bit first, releases the line to position 127 and wherever it drives no slot, and in a slot it drives sends the
low bits of its value most significant bit first (R1, R2, R3, R4, R19, R20, R21, R123, R124, R125, R128, R158). -/
def Obligations.PlaybackReleasesWholeGroups : Prop :=
  (∀ s : State, (s.fe.link = .up ∨ (s.fe.link = .draining ∧ s.fe.drainFromSync = false)) →
    ∃ t, exec .frameStart s = .next t ∧
      (∀ n : Fin 8, s.su.streams[n].dir = .playback →
        let st := s.su.streams[n]
        let st' := t.su.streams[n]
        let g := groupOf t.sm.active st'.live
        let moved : Prop := st'.queue = st.queue.drop g.length ∧
          st'.counter = st.counter + BitVec.ofNat 32 g.length ∧ st'.xrun = false ∧ st'.underruns = st.underruns ∧
          st'.state = .running ∧ st'.hold = heldAfter st.hold g (st.queue.take g.length) ∧
          (∀ (i : Nat) (p : Fin 32 × SlotRecord) (x : Sample), g[i]? = some p → st.queue[i]? = some x →
            (∀ (j : Nat) (q : Fin 32 × SlotRecord), g[j]? = some q → q.2.lane = p.2.lane → j = i) →
            st'.hold[p.2.lane] = x) ∧
          (∀ l : Fin 8, (∀ p ∈ g, p.2.lane ≠ l) → st'.hold[l] = st.hold[l])
        let stays : Prop :=
          st'.queue = st.queue ∧ st'.counter = st.counter ∧ st'.hold = st.hold ∧ st'.state = st.state
        (st.state = .running → g.length = 0 → stays ∧ st'.underruns = st.underruns ∧ st'.xrun = st.xrun) ∧
        (st.state = .running → 1 ≤ g.length → g.length ≤ st.queue.length → moved) ∧
        (st.state = .running → st.queue.length < g.length →
          stays ∧ st'.underruns.toNat = min (st.underruns.toNat + 1) 65535 ∧ st'.xrun = true ∧
          t.eu.xrun.getLsbD n.val = true) ∧
        (st.state = .priming → st.effective st.startLevel ≤ st.queue.length → g.length ≤ st.queue.length → moved) ∧
        (st.state = .priming → (st.queue.length < st.effective st.startLevel ∨ st.queue.length < g.length) →
          stays ∧ st'.underruns = st.underruns ∧ st'.xrun = st.xrun)) ∧
      (let group (n : Fin 8) := groupOf t.sm.active t.su.streams[n].live
       let carried (n : Fin 8) : List Drive :=
         let st := s.su.streams[n]
         let releases := decide ((group n).length ≤ st.queue.length) &&
           (decide (st.state = .running) || decide (st.effective st.startLevel ≤ st.queue.length))
         let fill (p : Fin 32 × SlotRecord) : Sample := match st.fillMode with
           | .zero => 0
           | .hold => st.hold[p.2.lane]
         let values := if releases = true then st.queue.take (group n).length else (group n).map fill
         if st.dir = .playback ∧ st.state ≠ .disabled then
           ((group n).zip values).map fun p =>
             { slot := p.1.1, start := p.1.2.start, width := p.1.2.width, value := p.2 }
         else []
       let made (n : Fin 8) : List GapRecord :=
         let st := s.su.streams[n]
         (if st.state ≠ .disabled ∧ t.su.streams[n].live ≠ st.live then
           [{ stream := n, kind := .lanesChanged, frame := s.fe.frameNo + 1, index := st.counter
              lanes := some t.su.streams[n].live.length }] else []) ++
         (if st.dir = .playback ∧ st.state = .running ∧ st.queue.length < (group n).length ∧ st.xrun = false then
           [{ stream := n, kind := .underrun, frame := s.fe.frameNo + 1, index := st.counter, lanes := none }] else [])
       let records := (List.finRange 8).flatMap made
       let room := 16 - s.eu.gaps.length
       t.su.drives = (List.finRange 8).flatMap carried ∧ t.eu.gaps = s.eu.gaps ++ records.take room ∧
       t.eu.sticky.getLsbD 10 = (s.eu.sticky.getLsbD 10 || decide (room < records.length)))) ∧
  (∀ (m : SlotTable) (live : List (Fin 32)),
    (∀ p : Fin 32 × SlotRecord, p ∈ groupOf m live ↔ p.1 ∈ live ∧ m[p.1] = some p.2) ∧
    (groupOf m live).Pairwise fun p q => p.2.lane ≤ q.2.lane) ∧
  (∀ c : LinkCfg, c.frameLength = 256 + 32 * c.n.toNat) ∧
  (∀ (s : State) (p : Nat),
    let runs : Prop := s.fe.link = .syncing ∨ s.fe.link = .up ∨ s.fe.link = .draining
    let covers (d : Drive) : Prop := d.start.toNat ≤ p ∧ p < d.start.toNat + d.width.bits
    (s.lclkRuns = true ↔ runs) ∧ (runs → s.lclkPeriod = some (2 * s.fe.session.div.toNat)) ∧
    (¬runs → s.lclkPeriod = none) ∧
    (¬runs → s.ldat p = none) ∧
    (runs → p < 8 → s.ldat p = some ((0xB2#8).getLsbD (7 - p))) ∧
    (runs → 8 ≤ p → p < 24 → s.ldat p = some (s.fe.frameNo.getLsbD (23 - p))) ∧
    (∀ w, runs → 24 ≤ p → p < 72 → s.cx.field = some w → s.ldat p = some (w.getLsbD (71 - p))) ∧
    (72 ≤ p → p < 128 → s.ldat p = none) ∧
    (s.fe.session.frameLength ≤ p → 128 ≤ p → s.ldat p = none) ∧
    (128 ≤ p → (∀ d ∈ s.su.drives, ¬covers d) → s.ldat p = none) ∧
    (∀ d ∈ s.su.drives, runs → 128 ≤ p → p < s.fe.session.frameLength → covers d →
      (∀ d' ∈ s.su.drives, covers d' → d' = d) →
      s.ldat p = some (d.value.getLsbD (d.start.toNat + d.width.bits - 1 - p))))

/-- The command field at a frame start: a command in progress keeps it; the Commit Engine comes first. A PENDING commit in
UP is validated against the map in force, the directory and the streams of this frame start: refused, it ends REFUSED with
its reason and its index or slot number, the change list kept; unchanged, it ends UNCHANGED with the list emptied; in both
the phase is IDLE, COMMIT_DONE is raised and the field is offered on; changed, the map is pending, the phase STAGING, and
the staging list holds for each target ascending its clears and then its sets, each by ascending slot number, the first
being granted. A staging command is preceded by a resynchronising PING where its target is marked; then come the SWITCH and
CANCEL copies, up to three. The survey follows with IDENTIFY, ASSIGN, and in BINDING READ 00h and then READ 01h; then a
request that needs traffic; and with nothing to send the frame carries IDLE (R37, R38, R48, R70, R99, R100, R101, R103,
R105, R145). -/
def Obligations.ArbiterGrantsInOrder : Prop :=
  (∀ s : State, (s.fe.link = .up ∨ s.fe.link = .draining) → ∃ t, exec .frameStart s = .next t ∧
    (∀ r, s.cx.inFlight = some r → t.cx.inFlight = some r) ∧
    (s.cx.inFlight = none →
      let verdict := Machine.validate s.cl.list t.sm.active s.fe.cfg.frameLength s.nd t.su.streams
      let declines : Prop := s.ce.phase = .idle ∨ (s.ce.phase = .pending ∧ ∀ m, verdict ≠ .changed m) ∨
        (s.ce.phase = .switching ∧ 3 ≤ s.ce.copies)
      (s.fe.link = .up → s.ce.phase = .pending →
        let record (o : CommitOutcome) (reason : Option Reason) (i : Option Nat) (k : Option (Fin 32)) : CommitResult :=
          { mode := some .apply, outcome := o, reason := reason, changeIndex := i, slot := k, node := none
            acked := none, switchFrame := none, generation := none }
        let ended (r : CommitResult) : Prop :=
          t.ce = { s.ce with phase := .idle, result := r } ∧ t.eu.sticky.getLsbD 7 = true
        (verdict = .refusedEmpty → ended (record .refused (some .empty) none none) ∧ t.cl = s.cl) ∧
        (∀ i, verdict = .refusedSlotNumber i →
          ended (record .refused (some .slotNumber) (some i) none) ∧ t.cl = s.cl) ∧
        (∀ reason k, verdict = .refusedCheck reason k →
          ended (record .refused (some reason) none (some k)) ∧ t.cl = s.cl) ∧
        (verdict = .unchanged → ended (record .unchanged none none none) ∧ t.cl = { s.cl with list := [] }) ∧
        (∀ m, verdict = .changed m →
          let clear (k : Fin 32) (r : SlotRecord) : StagingCmd :=
            { slot := k, target := r.owner, port := r.port, dir := r.dir, op := .clear }
          let set (k : Fin 32) (r : SlotRecord) : StagingCmd :=
            { slot := k, target := r.owner, port := r.port, dir := r.dir, op := .set r.width r.start }
          let clears := (List.finRange 32).filterMap fun k => match t.sm.active[k], m[k] with
            | some r, none => some (clear k r)
            | some r, some r' =>
              if r.owner = r'.owner ∧ r.port = r'.port ∧ r.dir = r'.dir then none else some (clear k r)
            | none, _ => none
          let sets := (List.finRange 32).filterMap fun k => match t.sm.active[k], m[k] with
            | none, some r' => some (set k r')
            | some r, some r' => if r = r' then none else some (set k r')
            | _, none => none
          t.cl = s.cl ∧
          t.ce = { s.ce with
            phase := .staging, pending := some m
            staging := (List.finRange 14).flatMap fun a =>
              clears.filter (fun c => c.target = a) ++ sets.filter (fun c => c.target = a) } ∧
          ∃ c rest, t.ce.staging = c :: rest ∧
            t.cx.inFlight = some { source := .commit, target := .node c.target, cmd := c.linkCommand, attempt := 1
                                   waits := 0
                                   stage := if s.nd[c.target].resync = true then .resyncPing else .command })) ∧
      (∀ c rest, s.fe.link = .up → s.ce.phase = .staging → s.ce.staging = c :: rest →
        t.cx.inFlight = some { source := .commit, target := .node c.target, cmd := c.linkCommand, attempt := 1
                               waits := 0
                               stage := if s.nd[c.target].resync = true then .resyncPing else .command }) ∧
      (s.ce.phase = .switching → s.ce.copies < 3 → s.ce.switchFrame ≠ some (s.fe.frameNo + 1) →
        t.cx.inFlight = some { source := .commit, target := .broadcast, cmd := .switch, attempt := 1, waits := 0
                               stage := .command }) ∧
      (s.ce.phase = .cancelling → s.ce.copies < 3 →
        t.cx.inFlight = some { source := .commit, target := .broadcast, cmd := .cancel, attempt := 1, waits := 0
                               stage := .command }) ∧
      (s.fe.link = .up → declines → s.sv.state = .seeking →
        t.cx.inFlight = some { source := .survey, target := .unbound, cmd := .identify, attempt := 1, waits := 0
                               stage := .command }) ∧
      (∀ b, s.fe.link = .up → declines → s.sv.state = .elected → s.sv.binding = some b →
        t.cx.inFlight = some { source := .survey, target := .unbound, cmd := .assign b.target, attempt := 1
                               waits := 0, stage := .command }) ∧
      (∀ b, s.fe.link = .up → declines → s.sv.state = .binding → s.sv.binding = some b →
        t.cx.inFlight = some { source := .survey, target := .node b.target
                               cmd := .read (if b.capA = none then 0x00 else 0x01), attempt := 1, waits := 0
                               stage := if s.nd[b.target].resync = true then .resyncPing else .command }) ∧
      (∀ q rest c, s.fe.link = .up → declines → s.sv.state.isRunning = false → s.rq.queue = q :: rest →
        s.rq.completions.length < 16 → issueCheck q.op s.nd[q.addr] = .sent c →
        t.cx.inFlight = some { source := .request, target := .node q.addr, cmd := c, attempt := 1, waits := 0
                               stage := if s.nd[q.addr].resync = true ∧ c ≠ .ping then .resyncPing else .command }) ∧
      (declines → ((s.fe.link = .draining ∧ s.ce.phase ≠ .pending) ∨ (s.fe.link = .up ∧
        s.sv.state.isRunning = false ∧ s.rq.queue = [] ∧ s.cx.cfg.interval = 0)) → t.cx.inFlight = none))) ∧
  (∀ c : StagingCmd, (c.op = .clear → c.linkCommand = .slotClear c.port c.dir) ∧
    ∀ w st, c.op = .set w st → c.linkCommand = .slotSet c.port c.dir w st)

/-- Keepalive, reached with every other source declining: it pings the due entry with the lowest address above its scan
position, or else the lowest due entry, and its scan position becomes that address; with no entry due it declines. An
entry is due in READY or PARKED when it has not been heard for at least the ping interval, modulo 65536 (R51). -/
def Obligations.KeepaliveServesDueEntries : Prop :=
  ∀ s : State, s.fe.link = .up → s.cx.inFlight = none → s.ce.phase = .idle → s.sv.state.isRunning = false →
    s.rq.queue = [] → s.cx.cfg.interval ≠ 0 →
    let due (a : NodeAddr) : Prop := (s.nd[a].state = .ready ∨ s.nd[a].state = .parked) ∧
      s.cx.cfg.interval.toNat ≤ (s.fe.frameNo + 1 - s.nd[a].lastHeard).toNat
    ∃ t, exec .frameStart s = .next t ∧
      ((∀ a, ¬due a) → t.cx.inFlight = none ∧ t.cx.scan = s.cx.scan) ∧
      ((∃ a, due a) → ∃ a, due a ∧ t.cx.scan = a.val + 1 ∧
        t.cx.inFlight = some { source := .keepalive, target := .node a, cmd := .ping, attempt := 1, waits := 0
                               stage := .command } ∧
        (∀ b, due b → s.cx.scan < b.val + 1 → s.cx.scan < a.val + 1 ∧ a ≤ b) ∧
        ((∀ b, due b → b.val + 1 ≤ s.cx.scan) → ∀ b, due b → a ≤ b))

/-- The issue-time checks by kind and entry state, and what a settled request leaves: its completion with attempts 0 and
no data at the tail, the request gone, and for a release of a BOUND or LOST entry the entry FREE. One offer settles the
requests from the head one after another, each against the directory as the ones before it leave it, until the queue is
empty, the completion list holds 16 records or a request needs traffic, which is then granted the field; a list that is
full at the offer stalls the queue, with nothing settled and nothing sent (R145, R146; that a release settled in the offer
frees its entry for the requests after it is read from R67, log entry 10). -/
def Obligations.IssueTimeChecks : Prop :=
  (∀ e : Entry,
    let present := e.state = .ready ∨ e.state = .parked
    (∀ r, (present → issueCheck (.nodeRead r) e = .sent (.read r)) ∧
      (¬present → issueCheck (.nodeRead r) e = .settled .notBound false)) ∧
    (∀ r d, (r.toNat < 16 → issueCheck (.nodeWrite r d) e = .settled .isProtected false) ∧
      (16 ≤ r.toNat → present → issueCheck (.nodeWrite r d) e = .sent (.write r d)) ∧
      (16 ≤ r.toNat → ¬present → issueCheck (.nodeWrite r d) e = .settled .notBound false)) ∧
    (present → issueCheck .ping e = .sent .ping) ∧ (¬present → issueCheck .ping e = .settled .notBound false) ∧
    (e.state = .parked → issueCheck .park e = .settled .done false) ∧
    (¬present → issueCheck .park e = .settled .notBound false) ∧
    (∀ c, e.state = .ready → e.caps = some c → issueCheck .park e =
      if c.a.getLsbD 8 = true then .sent .park else .settled .unsupported false) ∧
    (e.state = .ready → issueCheck .resume e = .settled .done false) ∧
    (e.state = .parked → issueCheck .resume e = .sent .resume) ∧
    (¬present → issueCheck .resume e = .settled .notBound false) ∧
    (present → issueCheck .release e = .sent .unbind) ∧
    (e.state = .free → issueCheck .release e = .settled .notBound false) ∧
    (e.state = .bound ∨ e.state = .lost → issueCheck .release e = .settled .done true)) ∧
  (∀ (s : State) (q : Request) (o : CplOutcome) (frees : Bool), s.fe.link = .up → s.cx.inFlight = none →
    s.ce.phase = .idle → s.sv.state.isRunning = false → s.rq.queue = [q] → s.rq.completions.length < 16 →
    issueCheck q.op s.nd[q.addr] = .settled o frees →
    ∃ t, exec .frameStart s = .next t ∧
      t.rq = { s.rq with
        queue := []
        completions := s.rq.completions ++ [{ tag := q.tag, kind := q.op.kind, addr := q.addr, outcome := o
                                              data := none, attempts := 0 }] } ∧
      (∀ a : NodeAddr, t.nd[a] = if frees = true ∧ a = q.addr then Entry.freeEntry else s.nd[a])) ∧
  (∀ (s : State) (settled : List (Request × CplOutcome × Bool)) (rest : List Request), s.fe.link = .up →
    s.cx.inFlight = none → s.ce.phase = .idle → s.sv.state.isRunning = false →
    s.rq.queue = settled.map (fun x => x.1) ++ rest → s.rq.completions.length + settled.length ≤ 16 →
    -- the entry of an address once the first `i` requests are settled
    let entry (i : Nat) (a : NodeAddr) : Entry :=
      if (settled.take i).any (fun x => x.2.2 && decide (x.1.addr = a)) = true then Entry.freeEntry else s.nd[a]
    (∀ i q o frees, settled[i]? = some (q, o, frees) → issueCheck q.op (entry i q.addr) = .settled o frees) →
    let full : Prop := s.rq.completions.length + settled.length = 16
    let needs (q : Request) (c : LinkCommand) : Prop := issueCheck q.op (entry settled.length q.addr) = .sent c
    (rest = [] ∨ full ∨ ∃ q rest' c, rest = q :: rest' ∧ needs q c) →
    ∃ t, exec .frameStart s = .next t ∧
      t.rq = { s.rq with
        queue := rest
        completions := s.rq.completions ++ settled.map fun x =>
          { tag := x.1.tag, kind := x.1.op.kind, addr := x.1.addr, outcome := x.2.1, data := none, attempts := 0 } } ∧
      (∀ a : NodeAddr, t.nd[a] = entry settled.length a) ∧
      (rest = [] ∨ full → ∀ r, t.cx.inFlight = some r → r.source = .keepalive) ∧
      (∀ q rest' c, ¬full → rest = q :: rest' → needs q c → t.cx.inFlight = some
        { source := .request, target := .node q.addr, cmd := c, attempt := 1, waits := 0
          stage := if (entry settled.length q.addr).resync = true ∧ c ≠ .ping then .resyncPing else .command }))

/-! ### The read-back comparison and the frame end -/

/-- The read-back comparison: 24 bits that agree with the sync pattern and the frame number make a clean frame and set
the run to 0; any other make a contention frame, which raises the saturating counter and, short of the third in a row,
the run (R3, R31). -/
def Obligations.ReadbackJudged : Prop :=
  ∀ (s : State) (line : BitVec 24), s.fe.before .compared = true →
    (line = 0xB2#8 ++ s.fe.frameNo → exec (.readbackComparison line) s = .next { s with
      fe := { s.fe with contentionRun := 0, pos := .compared } }) ∧
    (line ≠ 0xB2#8 ++ s.fe.frameNo → s.fe.contentionRun < 2 → ∃ n : BitVec 16,
      n.toNat = min (s.fe.contentionCount.toNat + 1) 65535 ∧
      exec (.readbackComparison line) s = .next { s with
        fe := { s.fe with contentionCount := n, contentionRun := s.fe.contentionRun + 1, pos := .compared } })

/-- The third contention frame in a row enters FAULT at once: the frame number stands, the command in progress ends
without outcome, a request in flight completes LINK_DOWN with the attempt number held, an active commit ends ABORTED with
cause LINK_STOP and COMMIT_DONE, a running survey ends STOPPED, the directory and the map are empty, every live set is
empty with the rest of each stream kept, the discard field counts the requests that waited behind the one in flight with
cause LINK_STOP where there are any, LINK_FAULT is raised and LINK_DOWN is not (R31, R32, R33, R34, R108, R150). -/
def Obligations.ContentionFaultEntersFault : Prop :=
  ∀ s : State, s.fe.before .compared = true → 2 ≤ s.fe.contentionRun →
    ∃ t, exec .contentionFault s = .next t ∧
      (∀ line, line ≠ 0xB2#8 ++ s.fe.frameNo → exec (.readbackComparison line) s = .next t) ∧
      t.fe.link = .fault ∧ t.fe.frameNo = s.fe.frameNo ∧ t.fe.contentionRun = 0 ∧
      t.fe.contentionCount.toNat = min (s.fe.contentionCount.toNat + 1) 65535 ∧
      t.cx = { s.cx with inFlight := none, field := none, scan := 0 } ∧
      (∀ a : NodeAddr, t.nd[a] = Entry.freeEntry) ∧ (∀ k : Fin 32, t.sm.active[k] = none) ∧
      t.ce.phase = .idle ∧ t.ce.pending = none ∧ t.ce.staging = [] ∧
      (s.ce.phase = .idle → t.ce.result = s.ce.result) ∧
      (s.ce.phase ≠ .idle → t.eu.sticky.getLsbD 7 = true ∧
        t.ce.result = { mode := s.ce.result.mode, outcome := .aborted, reason := some .linkStop, changeIndex := none,
                        slot := none, node := none, acked := some s.ce.acked, switchFrame := none,
                        generation := none }) ∧
      (s.sv.state.isRunning = true → t.sv.state = .finished ∧ t.sv.result.outcome = .stopped ∧
        t.eu.sticky.getLsbD 3 = true) ∧
      t.rq.queue = [] ∧
      (let discarded (n : Nat) : Discard := if n = 0 then s.rq.discard else { count := n, cause := .linkStop }
       (∀ r q rest, s.cx.inFlight = some r → r.source = .request → s.rq.queue = q :: rest →
         s.rq.completions.length < 16 →
         t.rq.completions = s.rq.completions ++ [{ tag := q.tag, kind := q.op.kind, addr := q.addr, outcome := .linkDown
                                                   data := none, attempts := r.attempt }] ∧
         t.rq.discard = discarded rest.length) ∧
       ((∀ r, s.cx.inFlight = some r → r.source ≠ .request) → t.rq.completions = s.rq.completions ∧
         t.rq.discard = discarded s.rq.queue.length)) ∧
      (∀ n : Fin 8, t.su.streams[n] = { s.su.streams[n] with live := [], sinceStart := false }) ∧
      t.eu.sticky.getLsbD 2 = true ∧ t.eu.sticky.getLsbD 1 = s.eu.sticky.getLsbD 1

/-- A frame end that serves payload, in UP or in a drain entered from UP, quiet frames included, gives each CAPTURE stream
enabled since before the frame's start the group read from its live slots, in lane order: a whole group at the tail where
it fits, otherwise the group is dropped, the overrun count rises, the flag is set and XRUN[n] is raised; with no live lane,
and for every other stream, nothing changes. The first drop of a run makes an OVERRUN record with the frame and the
counter; the records, by ascending stream, stand at the tail of the gap list as far as it has room, and GAP_OVERFLOW is
raised for the rest. Where the second quiet frame ends, the entry into DOWN then empties every live set. A sample is read
most significant bit first from the slot's start; a position nobody drove reads 1, and the bits above the width are 0 (R2,
R19, R29, R34, R121, R122, R128, R130, R158). -/
def Obligations.CaptureDeliversWholeGroups : Prop :=
  (∀ (s : State) (payload : List Bool),
     (s.fe.link = .up ∨ (s.fe.link = .draining ∧ s.fe.drainFromSync = false)) → s.fe.pos = .answered →
     let ends := decide (s.fe.link = .draining) && s.fe.drainHeld && decide (1 ≤ s.fe.quietCount)
     let left (st : Machine.Stream) : Machine.Stream :=
       if ends = true then { st with live := [], sinceStart := false } else st
     let group (n : Fin 8) := groupOf s.sm.active s.su.streams[n].live
     let takes (n : Fin 8) : Prop :=
       s.su.streams[n].dir = .capture ∧ s.su.streams[n].state ≠ .disabled ∧ s.su.streams[n].sinceStart = true
     let records : List GapRecord := (List.finRange 8).flatMap fun n =>
       let st := s.su.streams[n]
       if st.dir = .capture ∧ st.state ≠ .disabled ∧ st.sinceStart = true ∧
         st.capacity - st.queue.length < (group n).length ∧ st.xrun = false then
         [{ stream := n, kind := .overrun, frame := s.fe.frameNo, index := st.counter, lanes := none }] else []
     let room := 16 - s.eu.gaps.length
     ∃ t, exec (.frameEnd payload) s = .next t ∧ (s.fe.link = .up → t.fe = { s.fe with pos := .ended }) ∧
       (ends = false → t.sm = s.sm ∧ t.nd = s.nd ∧ t.cx = s.cx ∧ t.rq = s.rq) ∧
       t.eu.gaps = s.eu.gaps ++ records.take room ∧
       t.eu.sticky.getLsbD 10 = (s.eu.sticky.getLsbD 10 || decide (room < records.length)) ∧ ∀ n : Fin 8,
       let st := s.su.streams[n]
       let st' := t.su.streams[n]
       (¬takes n → st' = left st) ∧ (takes n → (group n).length = 0 → st' = left st) ∧
       (takes n → 1 ≤ (group n).length → (group n).length ≤ st.capacity - st.queue.length →
         ∃ drq : Bool, st' = left { st with
           queue := st.queue ++ (group n).map (fun p => slotSample payload p.2)
           counter := st.counter + BitVec.ofNat 32 (group n).length, xrun := false, drq := drq } ∧
           drq = st'.drqLevel) ∧
       (takes n → st.capacity - st.queue.length < (group n).length → ∃ c : BitVec 16,
         c.toNat = min (st.overruns.toNat + 1) 65535 ∧ st' = left { st with overruns := c, xrun := true } ∧
         t.eu.xrun.getLsbD n.val = true)) ∧
  (∀ (payload : List Bool) (r : SlotRecord) (i : Nat), 128 ≤ r.start.toNat →
     (i < r.width.bits → (slotSample payload r).getLsbD i =
       payload.getD (r.start.toNat + r.width.bits - 1 - i - 128) true) ∧
     (r.width.bits ≤ i → (slotSample payload r).getLsbD i = false))

/-- The drain at a frame end: the first at which the condition holds starts the quiet count at 0, each quiet frame raises
it, and the second enters DOWN with LINK_DOWN raised, the directory, the map and the request queue empty and no command
in progress (R29, R33, R34, R150). -/
def Obligations.DrainCompletes : Prop :=
  ∀ (s : State) (payload : List Bool), s.fe.link = .draining → s.fe.pos = .answered →
    ∃ t, exec (.frameEnd payload) s = .next t ∧
      (s.fe.drainHeld = false → (s.cx.inFlight = none ∧ s.ce.phase = .idle) →
        t.fe = { s.fe with pos := .ended, drainHeld := true, quietCount := 0 }) ∧
      (s.fe.drainHeld = false → ¬(s.cx.inFlight = none ∧ s.ce.phase = .idle) → t.fe = { s.fe with pos := .ended }) ∧
      (s.fe.drainHeld = true → s.fe.quietCount < 1 →
        t.fe = { s.fe with pos := .ended, quietCount := s.fe.quietCount + 1 }) ∧
      (s.fe.drainHeld = true → 1 ≤ s.fe.quietCount → exec (.quietFramesEnd payload) s = .next t ∧
        t.fe.link = .down ∧ t.fe.frameNo = s.fe.frameNo ∧ t.cx.inFlight = none ∧
        (∀ a : NodeAddr, t.nd[a] = Entry.freeEntry) ∧ (∀ k : Fin 32, t.sm.active[k] = none) ∧
        t.rq.queue = [] ∧ t.rq.completions = s.rq.completions ∧
        t.rq.discard = (if s.rq.queue.length = 0 then s.rq.discard
          else { count := s.rq.queue.length, cause := .linkStop }) ∧
        (∀ n : Fin 8, t.su.streams[n].live = []) ∧ t.eu.sticky.getLsbD 1 = true)

/-! ### Response arrival -/

/-- The judgement of a response field, the first case that applies: all ones is no answer; a wrong check, status 3 or a
wrong responder is garbled; then WAIT, REFUSE with its reason, and ACK with its data, where a PING's echo must match. A
command for a node is judged with the node's address as responder; while a PING is sent, as the command or in stage
RESYNC_PING before it, the echo is the low eight bits of the frame number, and otherwise there is none. An ASSIGN is judged
with the new address and no echo (R7, R8, R10, R48). -/
def Obligations.ResponseJudged : Prop :=
  (∀ (who : BitVec 4) (echo : Option (BitVec 8)) (f : BitVec 32),
    let status := f.extractLsb' 26 2
    let data := f.extractLsb' 8 16
    let good := f ≠ BitVec.allOnes 32 ∧ crc8 (f.extractLsb' 8 24) = f.extractLsb' 0 8 ∧ status ≠ 3 ∧
      f.extractLsb' 28 4 = who
    (f = BitVec.allOnes 32 → judge who echo f = .noAnswer) ∧
    (f ≠ BitVec.allOnes 32 → ¬good → judge who echo f = .garbled) ∧
    (good → status = 1 → judge who echo f = .wait) ∧
    (good → status = 2 → judge who echo f = .refuse data) ∧
    (good → status = 0 → echo = none → judge who echo f = .ack data) ∧
    (∀ p, good → status = 0 → echo = some p →
      judge who echo f = if f.extractLsb' 8 8 = p then .ack data else .garbled)) ∧
  (∀ (s : State) (r : InFlight) (a : NodeAddr) (f : BitVec 32), r.target = .node a →
    (r.stage = .resyncPing ∨ r.cmd = .ping →
      s.judgeFor r f = judge (BitVec.ofNat 4 (a.val + 1)) (some (s.fe.frameNo.extractLsb' 0 8)) f) ∧
    (r.stage = .command → r.cmd ≠ .ping → (∀ b, r.cmd ≠ .assign b) →
      s.judgeFor r f = judge (BitVec.ofNat 4 (a.val + 1)) none f)) ∧
  (∀ (s : State) (r : InFlight) (b : NodeAddr) (f : BitVec 32), r.stage = .command → r.cmd = .assign b →
    s.judgeFor r f = judge (BitVec.ofNat 4 (b.val + 1)) none f)

/-- A response that leaves the command in progress, and one that finds none: a WAIT within the limit repeats it, an
attempt that fails with retries left is retried, an acknowledged resynchronising PING leads on to its command with
sequence bit 0; with no command in progress a field that is not all ones is counted as garble. The entry and the garble
counter change with the judgement and nothing else does (R41, R42, R43, R44, R49). -/
def Obligations.AttemptGoesOn : Prop :=
  ∀ (s : State) (f : BitVec 32), s.fe.running = true → s.fe.pos = .sent →
    let answered : FrameEngine := { s.fe with pos := .answered }
    (∀ (r : InFlight) (a : NodeAddr), s.cx.inFlight = some r → r.target = .node a →
      let e := s.nd[a]
      (s.judgeFor r f = .wait → r.waits < s.cx.cfg.wait.toNat → exec (.responseArrival f) s = .next { s with
        fe := answered, nd := upd s.nd a { e with miss := 0, lastHeard := s.fe.frameNo }
        cx := { s.cx with inFlight := some { r with waits := r.waits + 1 } } }) ∧
      (s.judgeFor r f = .noAnswer → e.miss + 1 < s.cx.cfg.loss.toNat → r.attempt ≤ s.cx.cfg.retry.toNat →
        exec (.responseArrival f) s = .next { s with
          fe := answered, nd := upd s.nd a { e with miss := e.miss + 1 }
          cx := { s.cx with inFlight := some { r with attempt := r.attempt + 1 } } }) ∧
      (s.judgeFor r f = .garbled → r.attempt ≤ s.cx.cfg.retry.toNat → ∃ g : BitVec 16,
        g.toNat = min (s.cx.garble.toNat + 1) 65535 ∧ exec (.responseArrival f) s = .next { s with
          fe := answered
          cx := { s.cx with garble := g, inFlight := some { r with attempt := r.attempt + 1 } } }) ∧
      (∀ d, r.stage = .resyncPing → s.judgeFor r f = .ack d → exec (.responseArrival f) s = .next { s with
        fe := answered
        nd := upd s.nd a { e with miss := 0, lastHeard := s.fe.frameNo, seq := false, resync := false }
        cx := { s.cx with inFlight := some { r with stage := .command, attempt := 1, waits := 0 } } })) ∧
    (s.cx.inFlight = none → f = BitVec.allOnes 32 → exec (.responseArrival f) s = .next { s with fe := answered }) ∧
    (s.cx.inFlight = none → f ≠ BitVec.allOnes 32 → ∃ g : BitVec 16, g.toNat = min (s.cx.garble.toNat + 1) 65535 ∧
      exec (.responseArrival f) s = .next { s with fe := answered, cx := { s.cx with garble := g } })

/-- A response that ends an addressed command: ACK and REFUSE toggle the sequence bit (a PING's ACK sets it to 0 and
clears RESYNC, its REFUSE marks RESYNC); the WAIT above the limit ends it TIMEOUT; a failed attempt with no retry left
ends it NO_ANSWER; a missing answer at the loss limit makes a BOUND, READY or PARKED entry LOST, raises NODE_LOST and ends
it NO_ANSWER. The entry is written, and marked RESYNC for TIMEOUT and NO_ANSWER, before the outcome is handed to the source (R41, R42, R43,
R45, R46, R47, R49, R50, R62). Two clauses are the model's choice and no rule's: a FREE or LOST entry that a missing answer
brings to the loss limit keeps its state with no NODE_LOST (log entry 14), and where the missing answer that reaches the
limit is also a last attempt, RETRIES_SPENT is the same moment as LOSS_LIMIT_REACHED (log entry 2). -/
def Obligations.CommandReachesOutcome : Prop :=
  ∀ (s : State) (f : BitVec 32) (r : InFlight) (a : NodeAddr), s.fe.running = true → s.fe.pos = .sent →
    s.cx.inFlight = some r → r.target = .node a →
    let e := s.nd[a]
    let answered : FrameEngine := { s.fe with pos := .answered }
    let heard : Entry := { e with miss := 0, lastHeard := s.fe.frameNo }
    let leaving (e' : Entry) : State := { s with fe := answered, nd := upd s.nd a e' }
    (∀ d, s.judgeFor r f = .ack d → r.stage = .command →
      exec (.responseArrival f) s = .next ((leaving
        (if r.cmd = .ping then { heard with seq := false, resync := false }
         else { heard with seq := !e.seq })).handOver r .ack d)) ∧
    (∀ d, s.judgeFor r f = .refuse d →
      exec (.responseArrival f) s = .next ((leaving
        { heard with seq := !e.seq, resync := if r.sending = .ping then true else e.resync }).handOver r .refuse d)) ∧
    (s.judgeFor r f = .wait → s.cx.cfg.wait.toNat ≤ r.waits →
      exec (.waitLimitExceeded f) s = .next ((leaving { heard with resync := true }).handOver r .timeout 0)) ∧
    (s.judgeFor r f = .noAnswer → e.miss + 1 < s.cx.cfg.loss.toNat → s.cx.cfg.retry.toNat < r.attempt →
      exec (.retriesSpent f) s =
        .next ((leaving { e with miss := e.miss + 1, resync := true }).handOver r .noAnswer 0)) ∧
    (s.judgeFor r f = .garbled → s.cx.cfg.retry.toNat < r.attempt → ∃ g : BitVec 16,
      g.toNat = min (s.cx.garble.toNat + 1) 65535 ∧ exec (.retriesSpent f) s =
        .next (({ leaving { e with resync := true } with cx := { s.cx with garble := g } } : State).handOver
          r .noAnswer 0)) ∧
    (s.judgeFor r f = .noAnswer → s.cx.cfg.loss.toNat ≤ e.miss + 1 →
      (e.state = .bound ∨ e.state = .ready ∨ e.state = .parked →
        exec (.lossLimitReached f) s = .next (({ leaving
          { e with state := .lost, miss := s.cx.cfg.loss.toNat, resync := true } with
          eu := { s.eu with sticky := s.eu.sticky ||| 0x040 } } : State).handOver r .noAnswer 0)) ∧
      (e.state = .free ∨ e.state = .lost →
        exec (.lossLimitReached f) s =
          .next ((leaving { e with miss := s.cx.cfg.loss.toNat, resync := true }).handOver r .noAnswer 0)) ∧
      (s.cx.cfg.retry.toNat < r.attempt → exec (.retriesSpent f) s = exec (.lossLimitReached f) s))

/-- An outcome handed to the Request Queue: the entry moves for PARK, RESUME and RELEASE, the completion with the tag,
the outcome, the data and the attempt number stands at the tail, and the request has left the queue. Keepalive takes no
outcome. Either way no command is in progress and nothing else changes (R52, R63, R64, R147, R148). -/
def Obligations.OutcomeCompletesRequest : Prop :=
  ∀ (s : State) (r : InFlight) (o : CmdOutcome) (d : BitVec 16),
    (r.source = .keepalive → s.handOver r o d = { s with cx := { s.cx with inFlight := none } }) ∧
    (∀ q rest, r.source = .request → s.rq.queue = q :: rest → s.rq.completions.length < 16 → ∃ t,
      s.handOver r o d = t ∧
      t = { s with cx := { s.cx with inFlight := none }, nd := t.nd, rq := t.rq } ∧
      t.rq = { s.rq with
        queue := rest
        completions := s.rq.completions ++
          [{ tag := q.tag, kind := q.op.kind, addr := q.addr
             outcome := match o with
               | .ack => .done
               | .refuse => .refused
               | .noAnswer => .noAnswer
               | .timeout => .timeout
             data := if o = .refuse ∨ (o = .ack ∧ (q.op.kind = .nodeRead ∨ q.op.kind = .ping)) then some d else none
             attempts := r.attempt }] } ∧
      (∀ b : NodeAddr, b ≠ q.addr → t.nd[b] = s.nd[b]) ∧
      (q.op = .release → t.nd[q.addr] = Entry.freeEntry) ∧
      (q.op = .park → o = .ack → t.nd[q.addr] = { s.nd[q.addr] with state := .parked }) ∧
      (q.op = .resume → o = .ack → t.nd[q.addr] = { s.nd[q.addr] with state := .ready }) ∧
      (q.op ≠ .release → (o ≠ .ack ∨ (q.op ≠ .park ∧ q.op ≠ .resume)) → t.nd[q.addr] = s.nd[q.addr]))

/-- An outcome handed to the Commit Engine in STAGING. In UP an ACK takes the command off the list and counts it, the
last one making the phase SWITCHING; any other outcome makes the record ABORTED with its cause, the node and the count,
the phase CANCELLING and the list and the pending map absent. In DRAINING every outcome ends the commit ABORTED with
cause LINK_STOP, counting an ACK, with COMMIT_DONE (R101, R102, R107). -/
def Obligations.OutcomeMovesCommit : Prop :=
  ∀ (s : State) (r : InFlight) (a : NodeAddr) (o : CmdOutcome) (d : BitVec 16), r.source = .commit →
    r.target = .node a →
    let cx' : Exchange := { s.cx with inFlight := none }
    let aborted (cause : Reason) (node : Option NodeAddr) (acked : Nat) : CommitResult :=
      { mode := s.ce.result.mode, outcome := .aborted, reason := some cause, changeIndex := none, slot := none
        node := node, acked := some acked, switchFrame := none, generation := none }
    (∀ c c' rest, s.fe.link = .up → o = .ack → s.ce.staging = c :: c' :: rest → s.handOver r o d = { s with
      cx := cx', ce := { s.ce with staging := c' :: rest, acked := s.ce.acked + 1 } }) ∧
    (∀ c, s.fe.link = .up → o = .ack → s.ce.staging = [c] → s.handOver r o d = { s with
      cx := cx', ce := { s.ce with staging := [], acked := s.ce.acked + 1, phase := .switching, copies := 0 } }) ∧
    (s.fe.link = .up → o ≠ .ack → s.handOver r o d = { s with
      cx := cx'
      ce := { s.ce with
        phase := .cancelling, pending := none, staging := [], copies := 0
        result := aborted (match o with
          | .refuse => .nodeRefused
          | .timeout => .timeout
          | _ => .noAnswer) (some a) s.ce.acked } }) ∧
    (s.fe.link = .draining →
      let acked := if o = .ack then s.ce.acked + 1 else s.ce.acked
      s.handOver r o d = { s with
        cx := cx'
        ce := { s.ce with
          phase := .idle, pending := none, staging := [], switchFrame := none, acked := acked
          result := aborted .linkStop none acked }
        eu := { s.eu with sticky := s.eu.sticky ||| 0x080 } })

/-- The response arrival of an IDENTIFY in UP or DRAINING: an identity held by an entry in READY, PARKED or LOST, and by no
other, is a rejoin at that entry; any other identity takes the lowest FREE address. In UP all ones ends the survey COMPLETE,
and an identity with no address FREE ends it DIRECTORY_FULL, each with SURVEY_DONE; in DRAINING neither ends it: the state
stays SEEKING, the result record stands and no event is raised (R14, R53, R71, R72, R75, R76). -/
def Obligations.IdentityElects : Prop :=
  ∀ (s : State) (f : BitVec 32) (r : InFlight), (s.fe.link = .up ∨ s.fe.link = .draining) → s.fe.pos = .sent →
    s.cx.inFlight = some r → r.target = .unbound → r.stage = .command → r.cmd = .identify →
    let cx' : Exchange := { s.cx with inFlight := none }
    let answered : FrameEngine := { s.fe with pos := .answered }
    let ended (o : SurveyOutcome) : State := { s with
      fe := answered, cx := cx'
      sv := { state := .finished, result := { s.sv.result with outcome := o }, binding := none }
      eu := { s.eu with sticky := s.eu.sticky ||| 0x008 } }
    let waiting : State := { s with
      fe := answered, cx := cx', sv := { state := .seeking, result := s.sv.result, binding := none } }
    let elected (b : Binding) : State := { s with
      fe := answered, cx := cx', sv := { s.sv with state := .elected, binding := some b } }
    let holds (a : NodeAddr) : Prop := s.nd[a].identity = some f ∧
      (s.nd[a].state = .ready ∨ s.nd[a].state = .parked ∨ s.nd[a].state = .lost)
    let full : Prop := f ≠ BitVec.allOnes 32 ∧ (∀ b, ¬holds b) ∧ ∀ b : NodeAddr, s.nd[b].state ≠ .free
    (s.fe.link = .up → f = BitVec.allOnes 32 → exec (.responseArrival f) s = .next (ended .complete)) ∧
    (s.fe.link = .up → full → exec (.responseArrival f) s = .next (ended .directoryFull)) ∧
    (s.fe.link = .draining → (f = BitVec.allOnes 32 ∨ full) → exec (.responseArrival f) s = .next waiting) ∧
    (∀ a, f ≠ BitVec.allOnes 32 → holds a → (∀ b, holds b → b = a) → exec (.responseArrival f) s =
      .next (elected { identity := f, target := a, rejoin := true, capA := none })) ∧
    (∀ a, f ≠ BitVec.allOnes 32 → (∀ b, ¬holds b) → s.nd[a].state = .free →
      (∀ b : NodeAddr, s.nd[b].state = .free → a ≤ b) → exec (.responseArrival f) s =
      .next (elected { identity := f, target := a, rejoin := false, capA := none }))

/-- An ASSIGN in UP or DRAINING, judged with the new address as responder: a valid ACK makes the target entry BOUND with the
values of R58 and the survey BINDING. A WAIT within the limit repeats it, and a failed attempt with retries left is retried
with the next attempt number. A REFUSE, a WAIT above the limit, or a failed attempt with no retry left discards the binding,
raises the election failures and returns to SEEKING; the third failure ends the survey ELECTION_FAILED with SURVEY_DONE in
UP, and in DRAINING does not end it. A garbled response raises the garble counter. No entry changes but by the ACK (R42,
R43, R44, R53, R58, R73, R75, R76). -/
def Obligations.AssignBindsOrFails : Prop :=
  ∀ (s : State) (f : BitVec 32) (r : InFlight) (b : Binding), (s.fe.link = .up ∨ s.fe.link = .draining) →
    s.fe.pos = .sent → s.cx.inFlight = some r → r.source = .survey → r.target = .unbound → r.stage = .command →
    r.cmd = .assign b.target → s.sv.binding = some b →
    let verdict := judge (BitVec.ofNat 4 (b.target.val + 1)) none f
    let retriesLeft : Prop := r.attempt ≤ s.cx.cfg.retry.toNat
    let answered : FrameEngine := { s.fe with pos := .answered }
    let failed : SurveyResult := { s.sv.result with electionFailures := s.sv.result.electionFailures + 1 }
    let goesOn (garble : BitVec 16) (r' : InFlight) : State := { s with
      fe := answered, cx := { s.cx with garble := garble, inFlight := some r' } }
    let seeks (garble : BitVec 16) : State := { s with
      fe := answered, cx := { s.cx with garble := garble, inFlight := none }
      sv := { state := .seeking, result := failed, binding := none } }
    let ends (garble : BitVec 16) : State := { s with
      fe := answered, cx := { s.cx with garble := garble, inFlight := none }
      sv := { state := .finished, result := { failed with outcome := .electionFailed }, binding := none }
      eu := { s.eu with sticky := s.eu.sticky ||| 0x008 } }
    let last : Prop := s.fe.link = .up ∧ 2 ≤ s.sv.result.electionFailures
    let fails (garble : BitVec 16) : Prop :=
      (¬last → exec (.responseArrival f) s = .next (seeks garble)) ∧
      (last → exec (.responseArrival f) s = .next (ends garble) ∧ exec (.electionFailed f) s = .next (ends garble))
    (∀ d, verdict = .ack d → exec (.responseArrival f) s = .next { s with
      fe := answered, cx := { s.cx with inFlight := none }, sv := { s.sv with state := .binding }
      nd := upd s.nd b.target
        { state := .bound, identity := some b.identity, caps := none, seq := false, resync := false, miss := 0
          lastHeard := s.fe.frameNo } }) ∧
    (verdict = .wait → r.waits < s.cx.cfg.wait.toNat → exec (.responseArrival f) s =
      .next (goesOn s.cx.garble { r with waits := r.waits + 1 })) ∧
    (verdict = .wait → s.cx.cfg.wait.toNat ≤ r.waits → fails s.cx.garble ∧
      exec (.waitLimitExceeded f) s = exec (.responseArrival f) s) ∧
    (∀ d, verdict = .refuse d → fails s.cx.garble) ∧
    (verdict = .noAnswer → retriesLeft → exec (.responseArrival f) s =
      .next (goesOn s.cx.garble { r with attempt := r.attempt + 1 })) ∧
    (verdict = .noAnswer → ¬retriesLeft → fails s.cx.garble ∧
      exec (.retriesSpent f) s = exec (.responseArrival f) s) ∧
    (verdict = .garbled → ∃ g : BitVec 16, g.toNat = min (s.cx.garble.toNat + 1) 65535 ∧
      (retriesLeft → exec (.responseArrival f) s = .next (goesOn g { r with attempt := r.attempt + 1 })) ∧
      (¬retriesLeft → fails g ∧ exec (.retriesSpent f) s = exec (.responseArrival f) s))

/-- An outcome of a capability READ handed to the survey in BINDING: register 00h acknowledged is kept in the binding
record; register 01h acknowledged makes the entry READY with both values, raises NODE_JOINED or NODE_REJOINED and its
saturating count, and the survey seeks again; any other outcome makes the entry LOST with NODE_LOST, unless it is LOST
already, and raises the failed count (R60, R61, R74). -/
def Obligations.CapabilityReadsConclude : Prop :=
  ∀ (s : State) (r : InFlight) (b : Binding) (reg : BitVec 8) (o : CmdOutcome) (d : BitVec 16),
    r.source = .survey → r.target = .node b.target → r.cmd = .read reg → s.sv.binding = some b →
    let cx' : Exchange := { s.cx with inFlight := none }
    let e := s.nd[b.target]
    (o = .ack → reg = 0 → s.handOver r o d = { s with
      cx := cx', sv := { s.sv with binding := some { b with capA := some d } } }) ∧
    (∀ v, o = .ack → reg = 1 → b.capA = some v → ∃ n : BitVec 8,
      n.toNat = min ((if b.rejoin = true then s.sv.result.rejoined else s.sv.result.joined).toNat + 1) 255 ∧
      s.handOver r o d = { s with
        cx := cx', nd := upd s.nd b.target { e with state := .ready, caps := some { a := v, b := d } }
        sv := { state := .seeking, binding := none
                result := if b.rejoin = true then { s.sv.result with rejoined := n }
                  else { s.sv.result with joined := n } }
        eu := { s.eu with sticky := s.eu.sticky ||| (if b.rejoin = true then 0x020 else 0x010) } }) ∧
    (o ≠ .ack → ∃ n : BitVec 8, n.toNat = min (s.sv.result.failed.toNat + 1) 255 ∧
      (e.state = .lost → s.handOver r o d = { s with
        cx := cx', sv := { state := .seeking, binding := none, result := { s.sv.result with failed := n } } }) ∧
      (e.state ≠ .lost → s.handOver r o d = { s with
        cx := cx', nd := upd s.nd b.target { e with state := .lost }
        sv := { state := .seeking, binding := none, result := { s.sv.result with failed := n } }
        eu := { s.eu with sticky := s.eu.sticky ||| 0x040 } }))

/-! ### The whole part -/

/-- A frame event, a sending, a read-back comparison or a response changes nothing that only the host writes: the pins,
LINK_CFG, XCHG_CFG and the n and DIV of the session, the staging words, the event enables, the fault record and its count,
every stream's configuration, levels and DMA bit, the word last read and the waiting commands (R20, R21, R22, R86, R113,
R114, R116, R141, R153, R155). -/
def Obligations.FrameEventsKeepHostState : Prop :=
  ∀ (c : Instr) (s t : State), c.isHostEvent = false → exec c s = .next t →
    t.resetN = s.resetN ∧ t.refclk = s.refclk ∧ t.fe.cfg = s.fe.cfg ∧ t.fe.session = s.fe.session ∧
    t.cx.cfg = s.cx.cfg ∧ t.cl.stage0 = s.cl.stage0 ∧ t.cl.stage1 = s.cl.stage1 ∧ t.rq.stage0 = s.rq.stage0 ∧
    t.rq.stage1 = s.rq.stage1 ∧ t.eu.enable = s.eu.enable ∧ t.eu.senable = s.eu.senable ∧ t.eu.fault = s.eu.fault ∧
    t.eu.faultCount = s.eu.faultCount ∧ t.readData = s.readData ∧ t.pending = s.pending ∧
    ∀ n : Fin 8, t.su.streams[n] = { t.su.streams[n] with
      dir := s.su.streams[n].dir, width := s.su.streams[n].width, capacity := s.su.streams[n].capacity
      packing := s.su.streams[n].packing, signExt := s.su.streams[n].signExt
      fillMode := s.su.streams[n].fillMode, service := s.su.streams[n].service, burst := s.su.streams[n].burst
      startLevel := s.su.streams[n].startLevel, dma := s.su.streams[n].dma }

/-- The map generation counts the changes of the map: a command that leaves the active map leaves the generation, one that
changes it raises the generation by 1, and only a device reset does otherwise (R79, R82). -/
def Obligations.GenerationCountsMapChanges : Prop :=
  ∀ (c : Instr) (s t : State), exec c s = .next t →
    (t.sm.active = s.sm.active ∧ t.sm.generation = s.sm.generation) ∨
    (t.sm.active ≠ s.sm.active ∧ t.sm.generation = s.sm.generation + 1) ∨ t.atReset

/-- The change list of an active commit is unaltered until its outcome (R89). -/
def Obligations.ChangeListHeldDuringCommit : Prop :=
  ∀ (c : Instr) (s t : State), exec c s = .next t → s.ce.phase ≠ .idle → t.ce.phase ≠ .idle → t.cl.list = s.cl.list

/-! ### Invariants -/

/-- The state after a device reset meets every invariant below. -/
def Obligations.ResetMeetsEveryInvariant : Prop :=
  State.reset.ListsBounded ∧ State.reset.PoolFits ∧ State.reset.LinesJudged ∧ State.reset.StoppedIsEmpty ∧
    State.reset.MapsFit ∧ State.reset.IdentitiesHeldOnce

/-- Every step keeps every list within its places, and a free completion place for the request in flight (R85, R143, R145,
R149, R158). -/
def Obligations.StepKeepsListsBounded : Prop :=
  ∀ s t : State, s.ListsBounded → step s = .next t → t.ListsBounded

/-- Every step keeps the sum of the eight capacities within 1024 and every fill within its capacity (R113, R115), and
keeps each DRQ line asserted exactly while the DMA bit is on, the stream is enabled, and the fill of a CAPTURE stream, or
the free count of a PLAYBACK stream, is at least the effective burst (R139). -/
def Obligations.StepKeepsStreamsSound : Prop :=
  (∀ s t : State, s.PoolFits → step s = .next t → t.PoolFits) ∧
  (∀ s t : State, s.LinesJudged → step s = .next t → t.LinesJudged ∧ ∀ n : Fin 8,
    let st := t.su.streams[n]
    (st.drq = true ↔ st.dma = true ∧ st.state ≠ .disabled ∧
      ((st.dir = .capture ∧ st.effective st.burst ≤ st.queue.length) ∨
        (st.dir = .playback ∧ st.effective st.burst ≤ st.capacity - st.queue.length))))

/-- Every step keeps a stopped link empty (R25, R29, R33, R34, R65, R79). -/
def Obligations.StepKeepsStoppedEmpty : Prop :=
  ∀ s t : State, s.StoppedIsEmpty → step s = .next t → t.StoppedIsEmpty

/-- Every step keeps the slots of the map from overlapping and within positions 128 to L - 1 (R83). -/
def Obligations.StepKeepsMapsFit : Prop :=
  ∀ s t : State, s.MapsFit → step s = .next t → t.MapsFit

/-- Every step keeps identities held once, and BOUND entries to a survey that binds them (R66). -/
def Obligations.StepKeepsIdentitiesOnce : Prop :=
  ∀ s t : State, s.IdentitiesHeldOnce → step s = .next t → t.IdentitiesHeldOnce
end

