-- ==== Sys2Proof/Laws/Arbiter.lean ====
section
/-! SUPPORT. The arbiter's offers one by one: who is reached, and who declines (R37, R38). -/
namespace Sys2Proof.Machine

theorem State.offerTo_taken {s : State} {f : State → State} (h : s.cx.inFlight.isSome = true) : s.offerTo f = s := by
  unfold State.offerTo
  rw [if_pos h]

theorem State.offerTo_free {s : State} {f : State → State} (h : s.cx.inFlight = none) : s.offerTo f = f s := by
  unfold State.offerTo
  rw [if_neg (by rw [h]; simp)]

/-- A command in progress keeps the field. -/
theorem State.settleField_inFlight {s : State} (h : s.cx.inFlight.isSome = true) : s.settleField = s := by
  unfold State.settleField
  rw [offerTo_taken h, offerTo_taken h, offerTo_taken h, offerTo_taken h]

/-- The Commit Engine takes the field before any other source. -/
theorem State.settleField_commit {s : State} (h : s.cx.inFlight = none)
    (h2 : s.offerCommit.cx.inFlight.isSome = true) : s.settleField = s.offerCommit := by
  unfold State.settleField
  rw [offerTo_free h, offerTo_taken h2, offerTo_taken h2, offerTo_taken h2]

theorem State.offerCommit_idle {s : State} (h : s.ce.phase = .idle) : s.offerCommit = s := by
  unfold State.offerCommit
  rw [h]

/-- With no commit active the Survey Engine takes the field before the others. -/
theorem State.settleField_survey {s : State} (h : s.cx.inFlight = none) (hi : s.ce.phase = .idle)
    (h2 : s.offerSurvey.cx.inFlight.isSome = true) : s.settleField = s.offerSurvey := by
  unfold State.settleField
  rw [offerTo_free h, offerCommit_idle hi, offerTo_free h, offerTo_taken h2, offerTo_taken h2]

theorem State.offerSurvey_idle {s : State} (h : s.sv.state.isRunning = false) : s.offerSurvey = s := by
  unfold State.offerSurvey
  split
  · have hn : s.sv.nextCommand = none := by
      unfold Survey.nextCommand
      revert h
      cases s.sv.state <;> cases s.sv.binding <;> simp [SurveyState.isRunning]
    rw [hn]
  · rfl

/-- With no commit active and no survey running the Request Queue is reached, and keepalive after it. -/
theorem State.settleField_requests {s : State} (h : s.cx.inFlight = none) (hi : s.ce.phase = .idle)
    (hs : s.sv.state.isRunning = false) : s.settleField = s.offerRequests.offerTo State.offerKeepalive := by
  unfold State.settleField
  rw [offerTo_free h, offerCommit_idle hi, offerTo_free h, offerSurvey_idle hs, offerTo_free h]

theorem State.offerRequests_empty {s : State} (h : s.rq.queue = []) : s.offerRequests = s := by
  unfold State.offerRequests
  split
  · rw [h]
    rfl
  · rfl

end Sys2Proof.Machine
end

