-- ==== Sys2Proof/Laws/State.lean ====
section
/-! SUPPORT. One lemma per field for each update of State, and for the shared operations that are such updates. -/
namespace Sys2Proof.Machine

/-! ### setFe -/

@[simp] theorem State.setFe_resetN (s : State) (x : FrameEngine) : (s.setFe x).resetN = s.resetN := rfl
@[simp] theorem State.setFe_refclk (s : State) (x : FrameEngine) : (s.setFe x).refclk = s.refclk := rfl
@[simp] theorem State.setFe_fe (s : State) (x : FrameEngine) : (s.setFe x).fe = x := rfl
@[simp] theorem State.setFe_cx (s : State) (x : FrameEngine) : (s.setFe x).cx = s.cx := rfl
@[simp] theorem State.setFe_nd (s : State) (x : FrameEngine) : (s.setFe x).nd = s.nd := rfl
@[simp] theorem State.setFe_sv (s : State) (x : FrameEngine) : (s.setFe x).sv = s.sv := rfl
@[simp] theorem State.setFe_sm (s : State) (x : FrameEngine) : (s.setFe x).sm = s.sm := rfl
@[simp] theorem State.setFe_cl (s : State) (x : FrameEngine) : (s.setFe x).cl = s.cl := rfl
@[simp] theorem State.setFe_ce (s : State) (x : FrameEngine) : (s.setFe x).ce = s.ce := rfl
@[simp] theorem State.setFe_su (s : State) (x : FrameEngine) : (s.setFe x).su = s.su := rfl
@[simp] theorem State.setFe_rq (s : State) (x : FrameEngine) : (s.setFe x).rq = s.rq := rfl
@[simp] theorem State.setFe_eu (s : State) (x : FrameEngine) : (s.setFe x).eu = s.eu := rfl
@[simp] theorem State.setFe_readData (s : State) (x : FrameEngine) : (s.setFe x).readData = s.readData := rfl
@[simp] theorem State.setFe_pending (s : State) (x : FrameEngine) : (s.setFe x).pending = s.pending := rfl

/-! ### setCx -/

@[simp] theorem State.setCx_resetN (s : State) (x : Exchange) : (s.setCx x).resetN = s.resetN := rfl
@[simp] theorem State.setCx_refclk (s : State) (x : Exchange) : (s.setCx x).refclk = s.refclk := rfl
@[simp] theorem State.setCx_fe (s : State) (x : Exchange) : (s.setCx x).fe = s.fe := rfl
@[simp] theorem State.setCx_cx (s : State) (x : Exchange) : (s.setCx x).cx = x := rfl
@[simp] theorem State.setCx_nd (s : State) (x : Exchange) : (s.setCx x).nd = s.nd := rfl
@[simp] theorem State.setCx_sv (s : State) (x : Exchange) : (s.setCx x).sv = s.sv := rfl
@[simp] theorem State.setCx_sm (s : State) (x : Exchange) : (s.setCx x).sm = s.sm := rfl
@[simp] theorem State.setCx_cl (s : State) (x : Exchange) : (s.setCx x).cl = s.cl := rfl
@[simp] theorem State.setCx_ce (s : State) (x : Exchange) : (s.setCx x).ce = s.ce := rfl
@[simp] theorem State.setCx_su (s : State) (x : Exchange) : (s.setCx x).su = s.su := rfl
@[simp] theorem State.setCx_rq (s : State) (x : Exchange) : (s.setCx x).rq = s.rq := rfl
@[simp] theorem State.setCx_eu (s : State) (x : Exchange) : (s.setCx x).eu = s.eu := rfl
@[simp] theorem State.setCx_readData (s : State) (x : Exchange) : (s.setCx x).readData = s.readData := rfl
@[simp] theorem State.setCx_pending (s : State) (x : Exchange) : (s.setCx x).pending = s.pending := rfl

/-! ### setNd -/

@[simp] theorem State.setNd_resetN (s : State) (x : Directory) : (s.setNd x).resetN = s.resetN := rfl
@[simp] theorem State.setNd_refclk (s : State) (x : Directory) : (s.setNd x).refclk = s.refclk := rfl
@[simp] theorem State.setNd_fe (s : State) (x : Directory) : (s.setNd x).fe = s.fe := rfl
@[simp] theorem State.setNd_cx (s : State) (x : Directory) : (s.setNd x).cx = s.cx := rfl
@[simp] theorem State.setNd_nd (s : State) (x : Directory) : (s.setNd x).nd = x := rfl
@[simp] theorem State.setNd_sv (s : State) (x : Directory) : (s.setNd x).sv = s.sv := rfl
@[simp] theorem State.setNd_sm (s : State) (x : Directory) : (s.setNd x).sm = s.sm := rfl
@[simp] theorem State.setNd_cl (s : State) (x : Directory) : (s.setNd x).cl = s.cl := rfl
@[simp] theorem State.setNd_ce (s : State) (x : Directory) : (s.setNd x).ce = s.ce := rfl
@[simp] theorem State.setNd_su (s : State) (x : Directory) : (s.setNd x).su = s.su := rfl
@[simp] theorem State.setNd_rq (s : State) (x : Directory) : (s.setNd x).rq = s.rq := rfl
@[simp] theorem State.setNd_eu (s : State) (x : Directory) : (s.setNd x).eu = s.eu := rfl
@[simp] theorem State.setNd_readData (s : State) (x : Directory) : (s.setNd x).readData = s.readData := rfl
@[simp] theorem State.setNd_pending (s : State) (x : Directory) : (s.setNd x).pending = s.pending := rfl

/-! ### setSv -/

@[simp] theorem State.setSv_resetN (s : State) (x : Survey) : (s.setSv x).resetN = s.resetN := rfl
@[simp] theorem State.setSv_refclk (s : State) (x : Survey) : (s.setSv x).refclk = s.refclk := rfl
@[simp] theorem State.setSv_fe (s : State) (x : Survey) : (s.setSv x).fe = s.fe := rfl
@[simp] theorem State.setSv_cx (s : State) (x : Survey) : (s.setSv x).cx = s.cx := rfl
@[simp] theorem State.setSv_nd (s : State) (x : Survey) : (s.setSv x).nd = s.nd := rfl
@[simp] theorem State.setSv_sv (s : State) (x : Survey) : (s.setSv x).sv = x := rfl
@[simp] theorem State.setSv_sm (s : State) (x : Survey) : (s.setSv x).sm = s.sm := rfl
@[simp] theorem State.setSv_cl (s : State) (x : Survey) : (s.setSv x).cl = s.cl := rfl
@[simp] theorem State.setSv_ce (s : State) (x : Survey) : (s.setSv x).ce = s.ce := rfl
@[simp] theorem State.setSv_su (s : State) (x : Survey) : (s.setSv x).su = s.su := rfl
@[simp] theorem State.setSv_rq (s : State) (x : Survey) : (s.setSv x).rq = s.rq := rfl
@[simp] theorem State.setSv_eu (s : State) (x : Survey) : (s.setSv x).eu = s.eu := rfl
@[simp] theorem State.setSv_readData (s : State) (x : Survey) : (s.setSv x).readData = s.readData := rfl
@[simp] theorem State.setSv_pending (s : State) (x : Survey) : (s.setSv x).pending = s.pending := rfl

/-! ### setSm -/

@[simp] theorem State.setSm_resetN (s : State) (x : SlotMap) : (s.setSm x).resetN = s.resetN := rfl
@[simp] theorem State.setSm_refclk (s : State) (x : SlotMap) : (s.setSm x).refclk = s.refclk := rfl
@[simp] theorem State.setSm_fe (s : State) (x : SlotMap) : (s.setSm x).fe = s.fe := rfl
@[simp] theorem State.setSm_cx (s : State) (x : SlotMap) : (s.setSm x).cx = s.cx := rfl
@[simp] theorem State.setSm_nd (s : State) (x : SlotMap) : (s.setSm x).nd = s.nd := rfl
@[simp] theorem State.setSm_sv (s : State) (x : SlotMap) : (s.setSm x).sv = s.sv := rfl
@[simp] theorem State.setSm_sm (s : State) (x : SlotMap) : (s.setSm x).sm = x := rfl
@[simp] theorem State.setSm_cl (s : State) (x : SlotMap) : (s.setSm x).cl = s.cl := rfl
@[simp] theorem State.setSm_ce (s : State) (x : SlotMap) : (s.setSm x).ce = s.ce := rfl
@[simp] theorem State.setSm_su (s : State) (x : SlotMap) : (s.setSm x).su = s.su := rfl
@[simp] theorem State.setSm_rq (s : State) (x : SlotMap) : (s.setSm x).rq = s.rq := rfl
@[simp] theorem State.setSm_eu (s : State) (x : SlotMap) : (s.setSm x).eu = s.eu := rfl
@[simp] theorem State.setSm_readData (s : State) (x : SlotMap) : (s.setSm x).readData = s.readData := rfl
@[simp] theorem State.setSm_pending (s : State) (x : SlotMap) : (s.setSm x).pending = s.pending := rfl

/-! ### setCl -/

@[simp] theorem State.setCl_resetN (s : State) (x : ChangeList) : (s.setCl x).resetN = s.resetN := rfl
@[simp] theorem State.setCl_refclk (s : State) (x : ChangeList) : (s.setCl x).refclk = s.refclk := rfl
@[simp] theorem State.setCl_fe (s : State) (x : ChangeList) : (s.setCl x).fe = s.fe := rfl
@[simp] theorem State.setCl_cx (s : State) (x : ChangeList) : (s.setCl x).cx = s.cx := rfl
@[simp] theorem State.setCl_nd (s : State) (x : ChangeList) : (s.setCl x).nd = s.nd := rfl
@[simp] theorem State.setCl_sv (s : State) (x : ChangeList) : (s.setCl x).sv = s.sv := rfl
@[simp] theorem State.setCl_sm (s : State) (x : ChangeList) : (s.setCl x).sm = s.sm := rfl
@[simp] theorem State.setCl_cl (s : State) (x : ChangeList) : (s.setCl x).cl = x := rfl
@[simp] theorem State.setCl_ce (s : State) (x : ChangeList) : (s.setCl x).ce = s.ce := rfl
@[simp] theorem State.setCl_su (s : State) (x : ChangeList) : (s.setCl x).su = s.su := rfl
@[simp] theorem State.setCl_rq (s : State) (x : ChangeList) : (s.setCl x).rq = s.rq := rfl
@[simp] theorem State.setCl_eu (s : State) (x : ChangeList) : (s.setCl x).eu = s.eu := rfl
@[simp] theorem State.setCl_readData (s : State) (x : ChangeList) : (s.setCl x).readData = s.readData := rfl
@[simp] theorem State.setCl_pending (s : State) (x : ChangeList) : (s.setCl x).pending = s.pending := rfl

/-! ### setCe -/

@[simp] theorem State.setCe_resetN (s : State) (x : Commit) : (s.setCe x).resetN = s.resetN := rfl
@[simp] theorem State.setCe_refclk (s : State) (x : Commit) : (s.setCe x).refclk = s.refclk := rfl
@[simp] theorem State.setCe_fe (s : State) (x : Commit) : (s.setCe x).fe = s.fe := rfl
@[simp] theorem State.setCe_cx (s : State) (x : Commit) : (s.setCe x).cx = s.cx := rfl
@[simp] theorem State.setCe_nd (s : State) (x : Commit) : (s.setCe x).nd = s.nd := rfl
@[simp] theorem State.setCe_sv (s : State) (x : Commit) : (s.setCe x).sv = s.sv := rfl
@[simp] theorem State.setCe_sm (s : State) (x : Commit) : (s.setCe x).sm = s.sm := rfl
@[simp] theorem State.setCe_cl (s : State) (x : Commit) : (s.setCe x).cl = s.cl := rfl
@[simp] theorem State.setCe_ce (s : State) (x : Commit) : (s.setCe x).ce = x := rfl
@[simp] theorem State.setCe_su (s : State) (x : Commit) : (s.setCe x).su = s.su := rfl
@[simp] theorem State.setCe_rq (s : State) (x : Commit) : (s.setCe x).rq = s.rq := rfl
@[simp] theorem State.setCe_eu (s : State) (x : Commit) : (s.setCe x).eu = s.eu := rfl
@[simp] theorem State.setCe_readData (s : State) (x : Commit) : (s.setCe x).readData = s.readData := rfl
@[simp] theorem State.setCe_pending (s : State) (x : Commit) : (s.setCe x).pending = s.pending := rfl

/-! ### setSu -/

@[simp] theorem State.setSu_resetN (s : State) (x : StreamUnit) : (s.setSu x).resetN = s.resetN := rfl
@[simp] theorem State.setSu_refclk (s : State) (x : StreamUnit) : (s.setSu x).refclk = s.refclk := rfl
@[simp] theorem State.setSu_fe (s : State) (x : StreamUnit) : (s.setSu x).fe = s.fe := rfl
@[simp] theorem State.setSu_cx (s : State) (x : StreamUnit) : (s.setSu x).cx = s.cx := rfl
@[simp] theorem State.setSu_nd (s : State) (x : StreamUnit) : (s.setSu x).nd = s.nd := rfl
@[simp] theorem State.setSu_sv (s : State) (x : StreamUnit) : (s.setSu x).sv = s.sv := rfl
@[simp] theorem State.setSu_sm (s : State) (x : StreamUnit) : (s.setSu x).sm = s.sm := rfl
@[simp] theorem State.setSu_cl (s : State) (x : StreamUnit) : (s.setSu x).cl = s.cl := rfl
@[simp] theorem State.setSu_ce (s : State) (x : StreamUnit) : (s.setSu x).ce = s.ce := rfl
@[simp] theorem State.setSu_su (s : State) (x : StreamUnit) : (s.setSu x).su = x := rfl
@[simp] theorem State.setSu_rq (s : State) (x : StreamUnit) : (s.setSu x).rq = s.rq := rfl
@[simp] theorem State.setSu_eu (s : State) (x : StreamUnit) : (s.setSu x).eu = s.eu := rfl
@[simp] theorem State.setSu_readData (s : State) (x : StreamUnit) : (s.setSu x).readData = s.readData := rfl
@[simp] theorem State.setSu_pending (s : State) (x : StreamUnit) : (s.setSu x).pending = s.pending := rfl

/-! ### setRq -/

@[simp] theorem State.setRq_resetN (s : State) (x : RequestQueue) : (s.setRq x).resetN = s.resetN := rfl
@[simp] theorem State.setRq_refclk (s : State) (x : RequestQueue) : (s.setRq x).refclk = s.refclk := rfl
@[simp] theorem State.setRq_fe (s : State) (x : RequestQueue) : (s.setRq x).fe = s.fe := rfl
@[simp] theorem State.setRq_cx (s : State) (x : RequestQueue) : (s.setRq x).cx = s.cx := rfl
@[simp] theorem State.setRq_nd (s : State) (x : RequestQueue) : (s.setRq x).nd = s.nd := rfl
@[simp] theorem State.setRq_sv (s : State) (x : RequestQueue) : (s.setRq x).sv = s.sv := rfl
@[simp] theorem State.setRq_sm (s : State) (x : RequestQueue) : (s.setRq x).sm = s.sm := rfl
@[simp] theorem State.setRq_cl (s : State) (x : RequestQueue) : (s.setRq x).cl = s.cl := rfl
@[simp] theorem State.setRq_ce (s : State) (x : RequestQueue) : (s.setRq x).ce = s.ce := rfl
@[simp] theorem State.setRq_su (s : State) (x : RequestQueue) : (s.setRq x).su = s.su := rfl
@[simp] theorem State.setRq_rq (s : State) (x : RequestQueue) : (s.setRq x).rq = x := rfl
@[simp] theorem State.setRq_eu (s : State) (x : RequestQueue) : (s.setRq x).eu = s.eu := rfl
@[simp] theorem State.setRq_readData (s : State) (x : RequestQueue) : (s.setRq x).readData = s.readData := rfl
@[simp] theorem State.setRq_pending (s : State) (x : RequestQueue) : (s.setRq x).pending = s.pending := rfl

/-! ### setEu -/

@[simp] theorem State.setEu_resetN (s : State) (x : EventUnit) : (s.setEu x).resetN = s.resetN := rfl
@[simp] theorem State.setEu_refclk (s : State) (x : EventUnit) : (s.setEu x).refclk = s.refclk := rfl
@[simp] theorem State.setEu_fe (s : State) (x : EventUnit) : (s.setEu x).fe = s.fe := rfl
@[simp] theorem State.setEu_cx (s : State) (x : EventUnit) : (s.setEu x).cx = s.cx := rfl
@[simp] theorem State.setEu_nd (s : State) (x : EventUnit) : (s.setEu x).nd = s.nd := rfl
@[simp] theorem State.setEu_sv (s : State) (x : EventUnit) : (s.setEu x).sv = s.sv := rfl
@[simp] theorem State.setEu_sm (s : State) (x : EventUnit) : (s.setEu x).sm = s.sm := rfl
@[simp] theorem State.setEu_cl (s : State) (x : EventUnit) : (s.setEu x).cl = s.cl := rfl
@[simp] theorem State.setEu_ce (s : State) (x : EventUnit) : (s.setEu x).ce = s.ce := rfl
@[simp] theorem State.setEu_su (s : State) (x : EventUnit) : (s.setEu x).su = s.su := rfl
@[simp] theorem State.setEu_rq (s : State) (x : EventUnit) : (s.setEu x).rq = s.rq := rfl
@[simp] theorem State.setEu_eu (s : State) (x : EventUnit) : (s.setEu x).eu = x := rfl
@[simp] theorem State.setEu_readData (s : State) (x : EventUnit) : (s.setEu x).readData = s.readData := rfl
@[simp] theorem State.setEu_pending (s : State) (x : EventUnit) : (s.setEu x).pending = s.pending := rfl

/-! ### setReadData -/

@[simp] theorem State.setReadData_resetN (s : State) (x : Word) : (s.setReadData x).resetN = s.resetN := rfl
@[simp] theorem State.setReadData_refclk (s : State) (x : Word) : (s.setReadData x).refclk = s.refclk := rfl
@[simp] theorem State.setReadData_fe (s : State) (x : Word) : (s.setReadData x).fe = s.fe := rfl
@[simp] theorem State.setReadData_cx (s : State) (x : Word) : (s.setReadData x).cx = s.cx := rfl
@[simp] theorem State.setReadData_nd (s : State) (x : Word) : (s.setReadData x).nd = s.nd := rfl
@[simp] theorem State.setReadData_sv (s : State) (x : Word) : (s.setReadData x).sv = s.sv := rfl
@[simp] theorem State.setReadData_sm (s : State) (x : Word) : (s.setReadData x).sm = s.sm := rfl
@[simp] theorem State.setReadData_cl (s : State) (x : Word) : (s.setReadData x).cl = s.cl := rfl
@[simp] theorem State.setReadData_ce (s : State) (x : Word) : (s.setReadData x).ce = s.ce := rfl
@[simp] theorem State.setReadData_su (s : State) (x : Word) : (s.setReadData x).su = s.su := rfl
@[simp] theorem State.setReadData_rq (s : State) (x : Word) : (s.setReadData x).rq = s.rq := rfl
@[simp] theorem State.setReadData_eu (s : State) (x : Word) : (s.setReadData x).eu = s.eu := rfl
@[simp] theorem State.setReadData_readData (s : State) (x : Word) : (s.setReadData x).readData = x := rfl
@[simp] theorem State.setReadData_pending (s : State) (x : Word) : (s.setReadData x).pending = s.pending := rfl

/-! ### setPending -/

@[simp] theorem State.setPending_resetN (s : State) (x : List Instr) : (s.setPending x).resetN = s.resetN := rfl
@[simp] theorem State.setPending_refclk (s : State) (x : List Instr) : (s.setPending x).refclk = s.refclk := rfl
@[simp] theorem State.setPending_fe (s : State) (x : List Instr) : (s.setPending x).fe = s.fe := rfl
@[simp] theorem State.setPending_cx (s : State) (x : List Instr) : (s.setPending x).cx = s.cx := rfl
@[simp] theorem State.setPending_nd (s : State) (x : List Instr) : (s.setPending x).nd = s.nd := rfl
@[simp] theorem State.setPending_sv (s : State) (x : List Instr) : (s.setPending x).sv = s.sv := rfl
@[simp] theorem State.setPending_sm (s : State) (x : List Instr) : (s.setPending x).sm = s.sm := rfl
@[simp] theorem State.setPending_cl (s : State) (x : List Instr) : (s.setPending x).cl = s.cl := rfl
@[simp] theorem State.setPending_ce (s : State) (x : List Instr) : (s.setPending x).ce = s.ce := rfl
@[simp] theorem State.setPending_su (s : State) (x : List Instr) : (s.setPending x).su = s.su := rfl
@[simp] theorem State.setPending_rq (s : State) (x : List Instr) : (s.setPending x).rq = s.rq := rfl
@[simp] theorem State.setPending_eu (s : State) (x : List Instr) : (s.setPending x).eu = s.eu := rfl
@[simp] theorem State.setPending_readData (s : State) (x : List Instr) : (s.setPending x).readData = s.readData := rfl
@[simp] theorem State.setPending_pending (s : State) (x : List Instr) : (s.setPending x).pending = x := rfl

/-! ### raise -/

@[simp] theorem State.raise_resetN (s : State) (e : StickyEvent) : (s.raise e).resetN = s.resetN := rfl
@[simp] theorem State.raise_refclk (s : State) (e : StickyEvent) : (s.raise e).refclk = s.refclk := rfl
@[simp] theorem State.raise_fe (s : State) (e : StickyEvent) : (s.raise e).fe = s.fe := rfl
@[simp] theorem State.raise_cx (s : State) (e : StickyEvent) : (s.raise e).cx = s.cx := rfl
@[simp] theorem State.raise_nd (s : State) (e : StickyEvent) : (s.raise e).nd = s.nd := rfl
@[simp] theorem State.raise_sv (s : State) (e : StickyEvent) : (s.raise e).sv = s.sv := rfl
@[simp] theorem State.raise_sm (s : State) (e : StickyEvent) : (s.raise e).sm = s.sm := rfl
@[simp] theorem State.raise_cl (s : State) (e : StickyEvent) : (s.raise e).cl = s.cl := rfl
@[simp] theorem State.raise_ce (s : State) (e : StickyEvent) : (s.raise e).ce = s.ce := rfl
@[simp] theorem State.raise_su (s : State) (e : StickyEvent) : (s.raise e).su = s.su := rfl
@[simp] theorem State.raise_rq (s : State) (e : StickyEvent) : (s.raise e).rq = s.rq := rfl
@[simp] theorem State.raise_eu (s : State) (e : StickyEvent) : (s.raise e).eu = { s.eu with sticky := s.eu.sticky ||| (1#12 <<< e.bit) } := rfl
@[simp] theorem State.raise_readData (s : State) (e : StickyEvent) : (s.raise e).readData = s.readData := rfl
@[simp] theorem State.raise_pending (s : State) (e : StickyEvent) : (s.raise e).pending = s.pending := rfl

/-! ### raiseXrun -/

@[simp] theorem State.raiseXrun_resetN (s : State) (n : Fin 8) : (s.raiseXrun n).resetN = s.resetN := rfl
@[simp] theorem State.raiseXrun_refclk (s : State) (n : Fin 8) : (s.raiseXrun n).refclk = s.refclk := rfl
@[simp] theorem State.raiseXrun_fe (s : State) (n : Fin 8) : (s.raiseXrun n).fe = s.fe := rfl
@[simp] theorem State.raiseXrun_cx (s : State) (n : Fin 8) : (s.raiseXrun n).cx = s.cx := rfl
@[simp] theorem State.raiseXrun_nd (s : State) (n : Fin 8) : (s.raiseXrun n).nd = s.nd := rfl
@[simp] theorem State.raiseXrun_sv (s : State) (n : Fin 8) : (s.raiseXrun n).sv = s.sv := rfl
@[simp] theorem State.raiseXrun_sm (s : State) (n : Fin 8) : (s.raiseXrun n).sm = s.sm := rfl
@[simp] theorem State.raiseXrun_cl (s : State) (n : Fin 8) : (s.raiseXrun n).cl = s.cl := rfl
@[simp] theorem State.raiseXrun_ce (s : State) (n : Fin 8) : (s.raiseXrun n).ce = s.ce := rfl
@[simp] theorem State.raiseXrun_su (s : State) (n : Fin 8) : (s.raiseXrun n).su = s.su := rfl
@[simp] theorem State.raiseXrun_rq (s : State) (n : Fin 8) : (s.raiseXrun n).rq = s.rq := rfl
@[simp] theorem State.raiseXrun_eu (s : State) (n : Fin 8) : (s.raiseXrun n).eu = { s.eu with xrun := s.eu.xrun ||| (1#8 <<< n.val) } := rfl
@[simp] theorem State.raiseXrun_readData (s : State) (n : Fin 8) : (s.raiseXrun n).readData = s.readData := rfl
@[simp] theorem State.raiseXrun_pending (s : State) (n : Fin 8) : (s.raiseXrun n).pending = s.pending := rfl

/-! ### accessFault -/

@[simp] theorem State.accessFault_resetN (s : State) (c : FaultCause) (o : WinOffset) (d : Option EnableDetail) : (s.accessFault c o d).resetN = s.resetN := rfl
@[simp] theorem State.accessFault_refclk (s : State) (c : FaultCause) (o : WinOffset) (d : Option EnableDetail) : (s.accessFault c o d).refclk = s.refclk := rfl
@[simp] theorem State.accessFault_fe (s : State) (c : FaultCause) (o : WinOffset) (d : Option EnableDetail) : (s.accessFault c o d).fe = s.fe := rfl
@[simp] theorem State.accessFault_cx (s : State) (c : FaultCause) (o : WinOffset) (d : Option EnableDetail) : (s.accessFault c o d).cx = s.cx := rfl
@[simp] theorem State.accessFault_nd (s : State) (c : FaultCause) (o : WinOffset) (d : Option EnableDetail) : (s.accessFault c o d).nd = s.nd := rfl
@[simp] theorem State.accessFault_sv (s : State) (c : FaultCause) (o : WinOffset) (d : Option EnableDetail) : (s.accessFault c o d).sv = s.sv := rfl
@[simp] theorem State.accessFault_sm (s : State) (c : FaultCause) (o : WinOffset) (d : Option EnableDetail) : (s.accessFault c o d).sm = s.sm := rfl
@[simp] theorem State.accessFault_cl (s : State) (c : FaultCause) (o : WinOffset) (d : Option EnableDetail) : (s.accessFault c o d).cl = s.cl := rfl
@[simp] theorem State.accessFault_ce (s : State) (c : FaultCause) (o : WinOffset) (d : Option EnableDetail) : (s.accessFault c o d).ce = s.ce := rfl
@[simp] theorem State.accessFault_su (s : State) (c : FaultCause) (o : WinOffset) (d : Option EnableDetail) : (s.accessFault c o d).su = s.su := rfl
@[simp] theorem State.accessFault_rq (s : State) (c : FaultCause) (o : WinOffset) (d : Option EnableDetail) : (s.accessFault c o d).rq = s.rq := rfl
@[simp] theorem State.accessFault_eu (s : State) (c : FaultCause) (o : WinOffset) (d : Option EnableDetail) : (s.accessFault c o d).eu = { s.eu.record c o d with sticky := (s.eu.record c o d).sticky ||| (1#12 <<< StickyEvent.accessFault.bit) } := rfl
@[simp] theorem State.accessFault_readData (s : State) (c : FaultCause) (o : WinOffset) (d : Option EnableDetail) : (s.accessFault c o d).readData = s.readData := rfl
@[simp] theorem State.accessFault_pending (s : State) (c : FaultCause) (o : WinOffset) (d : Option EnableDetail) : (s.accessFault c o d).pending = s.pending := rfl

/-! ### setEntry -/

@[simp] theorem State.setEntry_resetN (s : State) (a : NodeAddr) (e : Entry) : (s.setEntry a e).resetN = s.resetN := rfl
@[simp] theorem State.setEntry_refclk (s : State) (a : NodeAddr) (e : Entry) : (s.setEntry a e).refclk = s.refclk := rfl
@[simp] theorem State.setEntry_fe (s : State) (a : NodeAddr) (e : Entry) : (s.setEntry a e).fe = s.fe := rfl
@[simp] theorem State.setEntry_cx (s : State) (a : NodeAddr) (e : Entry) : (s.setEntry a e).cx = s.cx := rfl
@[simp] theorem State.setEntry_nd (s : State) (a : NodeAddr) (e : Entry) : (s.setEntry a e).nd = upd s.nd a e := rfl
@[simp] theorem State.setEntry_sv (s : State) (a : NodeAddr) (e : Entry) : (s.setEntry a e).sv = s.sv := rfl
@[simp] theorem State.setEntry_sm (s : State) (a : NodeAddr) (e : Entry) : (s.setEntry a e).sm = s.sm := rfl
@[simp] theorem State.setEntry_cl (s : State) (a : NodeAddr) (e : Entry) : (s.setEntry a e).cl = s.cl := rfl
@[simp] theorem State.setEntry_ce (s : State) (a : NodeAddr) (e : Entry) : (s.setEntry a e).ce = s.ce := rfl
@[simp] theorem State.setEntry_su (s : State) (a : NodeAddr) (e : Entry) : (s.setEntry a e).su = s.su := rfl
@[simp] theorem State.setEntry_rq (s : State) (a : NodeAddr) (e : Entry) : (s.setEntry a e).rq = s.rq := rfl
@[simp] theorem State.setEntry_eu (s : State) (a : NodeAddr) (e : Entry) : (s.setEntry a e).eu = s.eu := rfl
@[simp] theorem State.setEntry_readData (s : State) (a : NodeAddr) (e : Entry) : (s.setEntry a e).readData = s.readData := rfl
@[simp] theorem State.setEntry_pending (s : State) (a : NodeAddr) (e : Entry) : (s.setEntry a e).pending = s.pending := rfl

/-! ### setEntryState -/

@[simp] theorem State.setEntryState_resetN (s : State) (a : NodeAddr) (st : EntryState) : (s.setEntryState a st).resetN = s.resetN := rfl
@[simp] theorem State.setEntryState_refclk (s : State) (a : NodeAddr) (st : EntryState) : (s.setEntryState a st).refclk = s.refclk := rfl
@[simp] theorem State.setEntryState_fe (s : State) (a : NodeAddr) (st : EntryState) : (s.setEntryState a st).fe = s.fe := rfl
@[simp] theorem State.setEntryState_cx (s : State) (a : NodeAddr) (st : EntryState) : (s.setEntryState a st).cx = s.cx := rfl
@[simp] theorem State.setEntryState_nd (s : State) (a : NodeAddr) (st : EntryState) : (s.setEntryState a st).nd = upd s.nd a { s.entry a with state := st } := rfl
@[simp] theorem State.setEntryState_sv (s : State) (a : NodeAddr) (st : EntryState) : (s.setEntryState a st).sv = s.sv := rfl
@[simp] theorem State.setEntryState_sm (s : State) (a : NodeAddr) (st : EntryState) : (s.setEntryState a st).sm = s.sm := rfl
@[simp] theorem State.setEntryState_cl (s : State) (a : NodeAddr) (st : EntryState) : (s.setEntryState a st).cl = s.cl := rfl
@[simp] theorem State.setEntryState_ce (s : State) (a : NodeAddr) (st : EntryState) : (s.setEntryState a st).ce = s.ce := rfl
@[simp] theorem State.setEntryState_su (s : State) (a : NodeAddr) (st : EntryState) : (s.setEntryState a st).su = s.su := rfl
@[simp] theorem State.setEntryState_rq (s : State) (a : NodeAddr) (st : EntryState) : (s.setEntryState a st).rq = s.rq := rfl
@[simp] theorem State.setEntryState_eu (s : State) (a : NodeAddr) (st : EntryState) : (s.setEntryState a st).eu = s.eu := rfl
@[simp] theorem State.setEntryState_readData (s : State) (a : NodeAddr) (st : EntryState) : (s.setEntryState a st).readData = s.readData := rfl
@[simp] theorem State.setEntryState_pending (s : State) (a : NodeAddr) (st : EntryState) : (s.setEntryState a st).pending = s.pending := rfl

/-! ### freeEntry -/

@[simp] theorem State.freeEntry_resetN (s : State) (a : NodeAddr) : (s.freeEntry a).resetN = s.resetN := rfl
@[simp] theorem State.freeEntry_refclk (s : State) (a : NodeAddr) : (s.freeEntry a).refclk = s.refclk := rfl
@[simp] theorem State.freeEntry_fe (s : State) (a : NodeAddr) : (s.freeEntry a).fe = s.fe := rfl
@[simp] theorem State.freeEntry_cx (s : State) (a : NodeAddr) : (s.freeEntry a).cx = s.cx := rfl
@[simp] theorem State.freeEntry_nd (s : State) (a : NodeAddr) : (s.freeEntry a).nd = upd s.nd a Entry.freeEntry := rfl
@[simp] theorem State.freeEntry_sv (s : State) (a : NodeAddr) : (s.freeEntry a).sv = s.sv := rfl
@[simp] theorem State.freeEntry_sm (s : State) (a : NodeAddr) : (s.freeEntry a).sm = s.sm := rfl
@[simp] theorem State.freeEntry_cl (s : State) (a : NodeAddr) : (s.freeEntry a).cl = s.cl := rfl
@[simp] theorem State.freeEntry_ce (s : State) (a : NodeAddr) : (s.freeEntry a).ce = s.ce := rfl
@[simp] theorem State.freeEntry_su (s : State) (a : NodeAddr) : (s.freeEntry a).su = s.su := rfl
@[simp] theorem State.freeEntry_rq (s : State) (a : NodeAddr) : (s.freeEntry a).rq = s.rq := rfl
@[simp] theorem State.freeEntry_eu (s : State) (a : NodeAddr) : (s.freeEntry a).eu = s.eu := rfl
@[simp] theorem State.freeEntry_readData (s : State) (a : NodeAddr) : (s.freeEntry a).readData = s.readData := rfl
@[simp] theorem State.freeEntry_pending (s : State) (a : NodeAddr) : (s.freeEntry a).pending = s.pending := rfl

/-! ### setStream -/

@[simp] theorem State.setStream_resetN (s : State) (n : Fin 8) (st : Stream) : (s.setStream n st).resetN = s.resetN := rfl
@[simp] theorem State.setStream_refclk (s : State) (n : Fin 8) (st : Stream) : (s.setStream n st).refclk = s.refclk := rfl
@[simp] theorem State.setStream_fe (s : State) (n : Fin 8) (st : Stream) : (s.setStream n st).fe = s.fe := rfl
@[simp] theorem State.setStream_cx (s : State) (n : Fin 8) (st : Stream) : (s.setStream n st).cx = s.cx := rfl
@[simp] theorem State.setStream_nd (s : State) (n : Fin 8) (st : Stream) : (s.setStream n st).nd = s.nd := rfl
@[simp] theorem State.setStream_sv (s : State) (n : Fin 8) (st : Stream) : (s.setStream n st).sv = s.sv := rfl
@[simp] theorem State.setStream_sm (s : State) (n : Fin 8) (st : Stream) : (s.setStream n st).sm = s.sm := rfl
@[simp] theorem State.setStream_cl (s : State) (n : Fin 8) (st : Stream) : (s.setStream n st).cl = s.cl := rfl
@[simp] theorem State.setStream_ce (s : State) (n : Fin 8) (st : Stream) : (s.setStream n st).ce = s.ce := rfl
@[simp] theorem State.setStream_su (s : State) (n : Fin 8) (st : Stream) : (s.setStream n st).su = { s.su with streams := upd s.su.streams n st } := rfl
@[simp] theorem State.setStream_rq (s : State) (n : Fin 8) (st : Stream) : (s.setStream n st).rq = s.rq := rfl
@[simp] theorem State.setStream_eu (s : State) (n : Fin 8) (st : Stream) : (s.setStream n st).eu = s.eu := rfl
@[simp] theorem State.setStream_readData (s : State) (n : Fin 8) (st : Stream) : (s.setStream n st).readData = s.readData := rfl
@[simp] theorem State.setStream_pending (s : State) (n : Fin 8) (st : Stream) : (s.setStream n st).pending = s.pending := rfl

/-! ### setLink -/

@[simp] theorem State.setLink_resetN (s : State) (l : LinkState) : (s.setLink l).resetN = s.resetN := rfl
@[simp] theorem State.setLink_refclk (s : State) (l : LinkState) : (s.setLink l).refclk = s.refclk := rfl
@[simp] theorem State.setLink_fe (s : State) (l : LinkState) : (s.setLink l).fe = { s.fe with link := l } := rfl
@[simp] theorem State.setLink_cx (s : State) (l : LinkState) : (s.setLink l).cx = s.cx := rfl
@[simp] theorem State.setLink_nd (s : State) (l : LinkState) : (s.setLink l).nd = s.nd := rfl
@[simp] theorem State.setLink_sv (s : State) (l : LinkState) : (s.setLink l).sv = s.sv := rfl
@[simp] theorem State.setLink_sm (s : State) (l : LinkState) : (s.setLink l).sm = s.sm := rfl
@[simp] theorem State.setLink_cl (s : State) (l : LinkState) : (s.setLink l).cl = s.cl := rfl
@[simp] theorem State.setLink_ce (s : State) (l : LinkState) : (s.setLink l).ce = s.ce := rfl
@[simp] theorem State.setLink_su (s : State) (l : LinkState) : (s.setLink l).su = s.su := rfl
@[simp] theorem State.setLink_rq (s : State) (l : LinkState) : (s.setLink l).rq = s.rq := rfl
@[simp] theorem State.setLink_eu (s : State) (l : LinkState) : (s.setLink l).eu = s.eu := rfl
@[simp] theorem State.setLink_readData (s : State) (l : LinkState) : (s.setLink l).readData = s.readData := rfl
@[simp] theorem State.setLink_pending (s : State) (l : LinkState) : (s.setLink l).pending = s.pending := rfl

/-! ### complete -/

@[simp] theorem State.complete_resetN (s : State) (q : Request) (o : CplOutcome) (d : Option (BitVec 16)) (n : Nat) : (s.complete q o d n).resetN = s.resetN := rfl
@[simp] theorem State.complete_refclk (s : State) (q : Request) (o : CplOutcome) (d : Option (BitVec 16)) (n : Nat) : (s.complete q o d n).refclk = s.refclk := rfl
@[simp] theorem State.complete_fe (s : State) (q : Request) (o : CplOutcome) (d : Option (BitVec 16)) (n : Nat) : (s.complete q o d n).fe = s.fe := rfl
@[simp] theorem State.complete_cx (s : State) (q : Request) (o : CplOutcome) (d : Option (BitVec 16)) (n : Nat) : (s.complete q o d n).cx = s.cx := rfl
@[simp] theorem State.complete_nd (s : State) (q : Request) (o : CplOutcome) (d : Option (BitVec 16)) (n : Nat) : (s.complete q o d n).nd = s.nd := rfl
@[simp] theorem State.complete_sv (s : State) (q : Request) (o : CplOutcome) (d : Option (BitVec 16)) (n : Nat) : (s.complete q o d n).sv = s.sv := rfl
@[simp] theorem State.complete_sm (s : State) (q : Request) (o : CplOutcome) (d : Option (BitVec 16)) (n : Nat) : (s.complete q o d n).sm = s.sm := rfl
@[simp] theorem State.complete_cl (s : State) (q : Request) (o : CplOutcome) (d : Option (BitVec 16)) (n : Nat) : (s.complete q o d n).cl = s.cl := rfl
@[simp] theorem State.complete_ce (s : State) (q : Request) (o : CplOutcome) (d : Option (BitVec 16)) (n : Nat) : (s.complete q o d n).ce = s.ce := rfl
@[simp] theorem State.complete_su (s : State) (q : Request) (o : CplOutcome) (d : Option (BitVec 16)) (n : Nat) : (s.complete q o d n).su = s.su := rfl
@[simp] theorem State.complete_rq (s : State) (q : Request) (o : CplOutcome) (d : Option (BitVec 16)) (n : Nat) : (s.complete q o d n).rq = { s.rq with
      queue := s.rq.queue.tail
      completions := s.rq.completions ++
        [{ tag := q.tag, kind := q.op.kind, addr := q.addr, outcome := o, data := d, attempts := n }] } := rfl
@[simp] theorem State.complete_eu (s : State) (q : Request) (o : CplOutcome) (d : Option (BitVec 16)) (n : Nat) : (s.complete q o d n).eu = s.eu := rfl
@[simp] theorem State.complete_readData (s : State) (q : Request) (o : CplOutcome) (d : Option (BitVec 16)) (n : Nat) : (s.complete q o d n).readData = s.readData := rfl
@[simp] theorem State.complete_pending (s : State) (q : Request) (o : CplOutcome) (d : Option (BitVec 16)) (n : Nat) : (s.complete q o d n).pending = s.pending := rfl

/-! ### abortLinkStop -/

@[simp] theorem State.abortLinkStop_resetN (s : State) (n : Nat) : (s.abortLinkStop n).resetN = s.resetN := rfl
@[simp] theorem State.abortLinkStop_refclk (s : State) (n : Nat) : (s.abortLinkStop n).refclk = s.refclk := rfl
@[simp] theorem State.abortLinkStop_fe (s : State) (n : Nat) : (s.abortLinkStop n).fe = s.fe := rfl
@[simp] theorem State.abortLinkStop_cx (s : State) (n : Nat) : (s.abortLinkStop n).cx = s.cx := rfl
@[simp] theorem State.abortLinkStop_nd (s : State) (n : Nat) : (s.abortLinkStop n).nd = s.nd := rfl
@[simp] theorem State.abortLinkStop_sv (s : State) (n : Nat) : (s.abortLinkStop n).sv = s.sv := rfl
@[simp] theorem State.abortLinkStop_sm (s : State) (n : Nat) : (s.abortLinkStop n).sm = s.sm := rfl
@[simp] theorem State.abortLinkStop_cl (s : State) (n : Nat) : (s.abortLinkStop n).cl = s.cl := rfl
@[simp] theorem State.abortLinkStop_ce (s : State) (n : Nat) : (s.abortLinkStop n).ce = { s.ce with
      phase := .idle, pending := none, staging := [], switchFrame := none, acked := n
      result := s.ce.result.abort .linkStop none n } := rfl
@[simp] theorem State.abortLinkStop_su (s : State) (n : Nat) : (s.abortLinkStop n).su = s.su := rfl
@[simp] theorem State.abortLinkStop_rq (s : State) (n : Nat) : (s.abortLinkStop n).rq = s.rq := rfl
@[simp] theorem State.abortLinkStop_eu (s : State) (n : Nat) : (s.abortLinkStop n).eu = { s.eu with sticky := s.eu.sticky ||| (1#12 <<< StickyEvent.commitDone.bit) } := rfl
@[simp] theorem State.abortLinkStop_readData (s : State) (n : Nat) : (s.abortLinkStop n).readData = s.readData := rfl
@[simp] theorem State.abortLinkStop_pending (s : State) (n : Nat) : (s.abortLinkStop n).pending = s.pending := rfl

/-! ### endSurvey -/

@[simp] theorem State.endSurvey_resetN (s : State) (o : SurveyOutcome) : (s.endSurvey o).resetN = s.resetN := rfl
@[simp] theorem State.endSurvey_refclk (s : State) (o : SurveyOutcome) : (s.endSurvey o).refclk = s.refclk := rfl
@[simp] theorem State.endSurvey_fe (s : State) (o : SurveyOutcome) : (s.endSurvey o).fe = s.fe := rfl
@[simp] theorem State.endSurvey_cx (s : State) (o : SurveyOutcome) : (s.endSurvey o).cx = s.cx := rfl
@[simp] theorem State.endSurvey_nd (s : State) (o : SurveyOutcome) : (s.endSurvey o).nd = s.nd := rfl
@[simp] theorem State.endSurvey_sv (s : State) (o : SurveyOutcome) : (s.endSurvey o).sv = { state := .finished, result := { s.sv.result with outcome := o }, binding := none } := rfl
@[simp] theorem State.endSurvey_sm (s : State) (o : SurveyOutcome) : (s.endSurvey o).sm = s.sm := rfl
@[simp] theorem State.endSurvey_cl (s : State) (o : SurveyOutcome) : (s.endSurvey o).cl = s.cl := rfl
@[simp] theorem State.endSurvey_ce (s : State) (o : SurveyOutcome) : (s.endSurvey o).ce = s.ce := rfl
@[simp] theorem State.endSurvey_su (s : State) (o : SurveyOutcome) : (s.endSurvey o).su = s.su := rfl
@[simp] theorem State.endSurvey_rq (s : State) (o : SurveyOutcome) : (s.endSurvey o).rq = s.rq := rfl
@[simp] theorem State.endSurvey_eu (s : State) (o : SurveyOutcome) : (s.endSurvey o).eu = { s.eu with sticky := s.eu.sticky ||| (1#12 <<< StickyEvent.surveyDone.bit) } := rfl
@[simp] theorem State.endSurvey_readData (s : State) (o : SurveyOutcome) : (s.endSurvey o).readData = s.readData := rfl
@[simp] theorem State.endSurvey_pending (s : State) (o : SurveyOutcome) : (s.endSurvey o).pending = s.pending := rfl

/-! ### clearBlocks -/

@[simp] theorem State.clearBlocks_resetN (s : State) : (s.clearBlocks).resetN = s.resetN := rfl
@[simp] theorem State.clearBlocks_refclk (s : State) : (s.clearBlocks).refclk = s.refclk := rfl
@[simp] theorem State.clearBlocks_fe (s : State) : (s.clearBlocks).fe = s.fe.linkDownClear := rfl
@[simp] theorem State.clearBlocks_cx (s : State) : (s.clearBlocks).cx = s.cx.linkDownClear := rfl
@[simp] theorem State.clearBlocks_nd (s : State) : (s.clearBlocks).nd = Directory.allFree := rfl
@[simp] theorem State.clearBlocks_sv (s : State) : (s.clearBlocks).sv = s.sv := rfl
@[simp] theorem State.clearBlocks_sm (s : State) : (s.clearBlocks).sm = s.sm.linkDownClear := rfl
@[simp] theorem State.clearBlocks_cl (s : State) : (s.clearBlocks).cl = s.cl := rfl
@[simp] theorem State.clearBlocks_ce (s : State) : (s.clearBlocks).ce = s.ce.linkDownClear := rfl
@[simp] theorem State.clearBlocks_su (s : State) : (s.clearBlocks).su = s.su.linkDownClear := rfl
@[simp] theorem State.clearBlocks_rq (s : State) : (s.clearBlocks).rq = s.rq.linkDownClear := rfl
@[simp] theorem State.clearBlocks_eu (s : State) : (s.clearBlocks).eu = s.eu := rfl
@[simp] theorem State.clearBlocks_readData (s : State) : (s.clearBlocks).readData = s.readData := rfl
@[simp] theorem State.clearBlocks_pending (s : State) : (s.clearBlocks).pending = s.pending := rfl

/-! ### grant -/

@[simp] theorem State.grant_resetN (s : State) (src : Source) (t : Target) (c : LinkCommand) : (s.grant src t c).resetN = s.resetN := rfl
@[simp] theorem State.grant_refclk (s : State) (src : Source) (t : Target) (c : LinkCommand) : (s.grant src t c).refclk = s.refclk := rfl
@[simp] theorem State.grant_fe (s : State) (src : Source) (t : Target) (c : LinkCommand) : (s.grant src t c).fe = s.fe := rfl
@[simp] theorem State.grant_nd (s : State) (src : Source) (t : Target) (c : LinkCommand) : (s.grant src t c).nd = s.nd := rfl
@[simp] theorem State.grant_sv (s : State) (src : Source) (t : Target) (c : LinkCommand) : (s.grant src t c).sv = s.sv := rfl
@[simp] theorem State.grant_sm (s : State) (src : Source) (t : Target) (c : LinkCommand) : (s.grant src t c).sm = s.sm := rfl
@[simp] theorem State.grant_cl (s : State) (src : Source) (t : Target) (c : LinkCommand) : (s.grant src t c).cl = s.cl := rfl
@[simp] theorem State.grant_ce (s : State) (src : Source) (t : Target) (c : LinkCommand) : (s.grant src t c).ce = s.ce := rfl
@[simp] theorem State.grant_su (s : State) (src : Source) (t : Target) (c : LinkCommand) : (s.grant src t c).su = s.su := rfl
@[simp] theorem State.grant_rq (s : State) (src : Source) (t : Target) (c : LinkCommand) : (s.grant src t c).rq = s.rq := rfl
@[simp] theorem State.grant_eu (s : State) (src : Source) (t : Target) (c : LinkCommand) : (s.grant src t c).eu = s.eu := rfl
@[simp] theorem State.grant_readData (s : State) (src : Source) (t : Target) (c : LinkCommand) : (s.grant src t c).readData = s.readData := rfl
@[simp] theorem State.grant_pending (s : State) (src : Source) (t : Target) (c : LinkCommand) : (s.grant src t c).pending = s.pending := rfl

/-! ### setInFlight -/

@[simp] theorem State.setInFlight_resetN (s : State) (r : InFlight) : (s.setInFlight r).resetN = s.resetN := rfl
@[simp] theorem State.setInFlight_refclk (s : State) (r : InFlight) : (s.setInFlight r).refclk = s.refclk := rfl
@[simp] theorem State.setInFlight_fe (s : State) (r : InFlight) : (s.setInFlight r).fe = s.fe := rfl
@[simp] theorem State.setInFlight_cx (s : State) (r : InFlight) : (s.setInFlight r).cx = { s.cx with inFlight := some r } := rfl
@[simp] theorem State.setInFlight_nd (s : State) (r : InFlight) : (s.setInFlight r).nd = s.nd := rfl
@[simp] theorem State.setInFlight_sv (s : State) (r : InFlight) : (s.setInFlight r).sv = s.sv := rfl
@[simp] theorem State.setInFlight_sm (s : State) (r : InFlight) : (s.setInFlight r).sm = s.sm := rfl
@[simp] theorem State.setInFlight_cl (s : State) (r : InFlight) : (s.setInFlight r).cl = s.cl := rfl
@[simp] theorem State.setInFlight_ce (s : State) (r : InFlight) : (s.setInFlight r).ce = s.ce := rfl
@[simp] theorem State.setInFlight_su (s : State) (r : InFlight) : (s.setInFlight r).su = s.su := rfl
@[simp] theorem State.setInFlight_rq (s : State) (r : InFlight) : (s.setInFlight r).rq = s.rq := rfl
@[simp] theorem State.setInFlight_eu (s : State) (r : InFlight) : (s.setInFlight r).eu = s.eu := rfl
@[simp] theorem State.setInFlight_readData (s : State) (r : InFlight) : (s.setInFlight r).readData = s.readData := rfl
@[simp] theorem State.setInFlight_pending (s : State) (r : InFlight) : (s.setInFlight r).pending = s.pending := rfl

/-! ### countGarble -/

@[simp] theorem State.countGarble_resetN (s : State) : (s.countGarble).resetN = s.resetN := rfl
@[simp] theorem State.countGarble_refclk (s : State) : (s.countGarble).refclk = s.refclk := rfl
@[simp] theorem State.countGarble_fe (s : State) : (s.countGarble).fe = s.fe := rfl
@[simp] theorem State.countGarble_cx (s : State) : (s.countGarble).cx = { s.cx with garble := satInc s.cx.garble } := rfl
@[simp] theorem State.countGarble_nd (s : State) : (s.countGarble).nd = s.nd := rfl
@[simp] theorem State.countGarble_sv (s : State) : (s.countGarble).sv = s.sv := rfl
@[simp] theorem State.countGarble_sm (s : State) : (s.countGarble).sm = s.sm := rfl
@[simp] theorem State.countGarble_cl (s : State) : (s.countGarble).cl = s.cl := rfl
@[simp] theorem State.countGarble_ce (s : State) : (s.countGarble).ce = s.ce := rfl
@[simp] theorem State.countGarble_su (s : State) : (s.countGarble).su = s.su := rfl
@[simp] theorem State.countGarble_rq (s : State) : (s.countGarble).rq = s.rq := rfl
@[simp] theorem State.countGarble_eu (s : State) : (s.countGarble).eu = s.eu := rfl
@[simp] theorem State.countGarble_readData (s : State) : (s.countGarble).readData = s.readData := rfl
@[simp] theorem State.countGarble_pending (s : State) : (s.countGarble).pending = s.pending := rfl

end Sys2Proof.Machine
end

