-- ==== Sys2Proof/Laws/Exec.lean ====
section
/-! SUPPORT. What a command can do, said once: every outcome of exec is a next state that one of the block's operations
made. What holds between a state and what each operation makes of it holds between a state and what a command makes of it,
and a property that each operation keeps is kept by every command and by every step. -/
namespace Sys2Proof.Machine

/-- `R` relates a state to what each operation that a command can carry out makes of it. -/
structure Makes (R : State → State → Prop) : Prop where
  same : ∀ s : State, R s s
  reset : ∀ (s : State) (a b : Bool), R s ({ s with resetN := a, refclk := b }).deviceReset
  readData : ∀ (s : State) (w : Word), R s (s.setReadData w)
  readFault : ∀ (s : State) (w : Word) (c : FaultCause) (o : WinOffset),
    R s ((s.setReadData w).accessFault c o)
  fault : ∀ (s : State) (c : FaultCause) (o : WinOffset) (d : Option EnableDetail), R s (s.accessFault c o d)
  linkStart : ∀ s : State, R s s.linkStart
  linkStop : ∀ s : State, R s s.linkStop
  faultClear : ∀ s : State, R s s.faultClear
  linkCfg : ∀ (s : State) (w : Word), R s (s.writeLinkCfg w)
  xchgCfg : ∀ (s : State) (w : Word), R s (s.writeXchgCfg w)
  linkErrors : ∀ s : State, R s s.clearLinkErrors
  surveyStart : ∀ s : State, R s s.surveyStart
  commit : ∀ (s : State) (m : Option CommitMode), R s (s.writeCommit m)
  evtClear : ∀ (s : State) (w : Word), R s (s.writeEvtClear w)
  sevtClear : ∀ (s : State) (w : Word), R s (s.writeSevtClear w)
  evtEnable : ∀ (s : State) (w : Word), R s (s.writeEvtEnable w)
  sevtEnable : ∀ (s : State) (w : Word), R s (s.writeSevtEnable w)
  faultRecord : ∀ s : State, R s s.clearFaultRecord
  popGap : ∀ s : State, R s s.popGap
  appendChange : ∀ s : State, R s s.appendChange
  clearChanges : ∀ s : State, R s s.clearChanges
  chgStage0 : ∀ (s : State) (w : Word), R s (s.writeChgStage0 w)
  chgStage1 : ∀ (s : State) (w : Word), R s (s.writeChgStage1 w)
  reqStage0 : ∀ (s : State) (w : Word), R s (s.writeReqStage0 w)
  reqStage1 : ∀ (s : State) (w : Word), R s (s.writeReqStage1 w)
  submit : ∀ s : State, R s s.submitRequest
  flush : ∀ s : State, R s s.flushRequests
  popCompletion : ∀ s : State, R s s.popCompletion
  streamCfg : ∀ (s : State) (n : Fin 8) (w : Word), R s (s.writeStreamCfg n w)
  streamLevels : ∀ (s : State) (n : Fin 8) (w : Word), R s (s.writeStreamLevels n w)
  streamCtrl : ∀ (s : State) (n : Fin 8) (a b d : Bool), R s (s.writeStreamCtrl n a b d)
  counts : ∀ (s : State) (n : Fin 8), R s (s.clearCounts n)
  readPort : ∀ (s : State) (n : Fin 8), R s (s.readPort n)
  writePort : ∀ (s : State) (n : Fin 8) (w : Word), R s (s.writePort n w)
  placeField : ∀ s : State, R s s.placeField
  fieldSent : ∀ s : State, R s s.fieldSent
  startFrame : ∀ s : State, s.fe.running = true → R s s.startFrame
  cleanFrame : ∀ s : State, s.fe.before .compared = true → R s s.cleanFrame
  contention : ∀ s : State, s.fe.before .compared = true → R s s.contention
  endFrame : ∀ (s : State) (p : List Bool), s.fe.before .ended = true → R s (s.endFrame p)
  respond : ∀ (s : State) (f : BitVec 32), s.fe.before .answered = true → R s (s.respond f)

variable {R : State → State → Prop}

theorem Makes.softReset (k : Makes R) (s : State) : R s s.softReset := k.reset s s.resetN s.refclk

theorem Makes.whenAlive (k : Makes R) {s : State} {f : State → State} (hf : R s (f s)) : R s (s.whenAlive f) := by
  unfold State.whenAlive
  split
  · exact k.same s
  · exact hf

theorem Makes.sendIf (k : Makes R) {s : State} (p : LinkCommand → Bool) : R s (s.sendIf p) := by
  unfold State.sendIf
  split
  · split
    · exact k.placeField s
    · exact k.same s
  · exact k.same s

theorem Makes.respondIf (k : Makes R) {s : State} (f : BitVec 32) (p : AttemptResult → Bool) :
    R s (s.respondIf f p) := by
  unfold State.respondIf
  split
  · split
    · rename_i hp
      exact k.respond s f hp.2
    · exact k.same s
  · exact k.same s

theorem Makes.writeControl (k : Makes R) {s : State} (w : Word) : R s (s.writeControl w) := by
  unfold State.writeControl
  split
  · exact k.same s
  · exact k.softReset s
  · exact k.linkStart s
  · exact k.linkStop s
  · exact k.faultClear s
  · exact k.fault s _ _ _

theorem Makes.writeSurvey (k : Makes R) {s : State} (w : Word) : R s (s.writeSurvey w) := by
  unfold State.writeSurvey
  split
  · exact k.surveyStart s
  · exact k.same s

/-- Every write to a register makes one of the operations. -/
theorem Makes.writeReg (k : Makes R) {s : State} (r : Reg) (w : Word) : R s (s.writeReg r w) := by
  cases r with
  | control => exact k.writeControl w
  | linkCfg => exact k.linkCfg s w
  | xchgCfg => exact k.xchgCfg s w
  | linkErrors => exact k.linkErrors s
  | survey => exact k.writeSurvey w
  | commit => exact k.commit s _
  | evtEnable => exact k.evtEnable s w
  | evtClear => exact k.evtClear s w
  | sevtEnable => exact k.sevtEnable s w
  | sevtClear => exact k.sevtClear s w
  | faultRecord => exact k.faultRecord s
  | gapPop => exact k.popGap s
  | reqStage0 => exact k.reqStage0 s w
  | reqStage1 => exact k.reqStage1 s w
  | reqSubmit => exact k.submit s
  | reqStatusFlush => exact k.flush s
  | cplPop => exact k.popCompletion s
  | chgStage0 => exact k.chgStage0 s w
  | chgStage1 => exact k.chgStage1 s w
  | chgAppend => exact k.appendChange s
  | chgClear => exact k.clearChanges s
  | streamCfg n => exact k.streamCfg s n w
  | streamLevels n => exact k.streamLevels s n w
  | streamCtrl n => exact k.streamCtrl s n _ _ _
  | streamCounts n => exact k.counts s n
  | dataPort n => exact k.writePort s n w
  | _ => exact k.fault s _ _ _

theorem Makes.hostWrite (k : Makes R) {s : State} (o : WinOffset) (w : Word) : R s (s.hostWrite o w) := by
  unfold State.hostWrite
  split
  · exact k.writeReg _ w
  · exact k.fault s _ _ _

theorem Makes.accessHeld (k : Makes R) {s : State} (a : Access) : R s (s.accessHeld a) := by
  cases a
  · exact k.readData s 0
  · exact k.same s

theorem Makes.accessUnmapped (k : Makes R) {s : State} (o : WinOffset) (a : Access) :
    R s (s.accessUnmapped o a) := by
  cases a
  · exact k.readFault s 0 _ _
  · exact k.fault s _ _ _

/-- Every command answers a next state, which one of the operations made. -/
theorem exec_makes (k : Makes R) (c : Instr) (s : State) : ∃ t, exec c s = .next t ∧ R s t := by
  cases c with
  | resetN => exact ⟨_, rfl, k.reset s false s.refclk⟩
  | refclkStop => exact ⟨_, rfl, k.reset s s.resetN false⟩
  | softReset => exact ⟨_, rfl, k.whenAlive (k.softReset s)⟩
  | linkStart => exact ⟨_, rfl, k.whenAlive (k.linkStart s)⟩
  | linkStop => exact ⟨_, rfl, k.whenAlive (k.linkStop s)⟩
  | faultClear => exact ⟨_, rfl, k.whenAlive (k.faultClear s)⟩
  | frameStart =>
    refine ⟨_, rfl, ?_⟩
    split
    · rename_i hr
      exact k.startFrame s hr
    · exact k.same s
  | readbackComparison line =>
    refine ⟨_, rfl, ?_⟩
    split
    · rename_i hb
      split
      · exact k.cleanFrame s hb
      · exact k.contention s hb
    · exact k.same s
  | contentionFault =>
    refine ⟨_, rfl, ?_⟩
    split
    · rename_i hb
      exact k.contention s hb.1
    · exact k.same s
  | syncComplete =>
    refine ⟨_, rfl, ?_⟩
    split
    · rename_i hl
      exact k.startFrame s (by simp [FrameEngine.running, hl.1])
    · exact k.same s
  | identify => exact ⟨_, rfl, k.sendIf _⟩
  | assign => exact ⟨_, rfl, k.sendIf _⟩
  | ping => exact ⟨_, rfl, k.sendIf _⟩
  | read => exact ⟨_, rfl, k.sendIf _⟩
  | write => exact ⟨_, rfl, k.sendIf _⟩
  | slotSet => exact ⟨_, rfl, k.sendIf _⟩
  | slotClear => exact ⟨_, rfl, k.sendIf _⟩
  | switch => exact ⟨_, rfl, k.sendIf _⟩
  | cancel => exact ⟨_, rfl, k.sendIf _⟩
  | park => exact ⟨_, rfl, k.sendIf _⟩
  | resume => exact ⟨_, rfl, k.sendIf _⟩
  | unbind => exact ⟨_, rfl, k.sendIf _⟩
  | commandFieldSent => exact ⟨_, rfl, k.fieldSent s⟩
  | cancelComplete =>
    refine ⟨_, rfl, ?_⟩
    split
    · exact k.fieldSent s
    · exact k.same s
  | responseArrival f =>
    refine ⟨_, rfl, ?_⟩
    split
    · rename_i hb
      exact k.respond s f hb
    · exact k.same s
  | waitLimitExceeded f => exact ⟨_, rfl, k.respondIf f _⟩
  | retriesSpent f => exact ⟨_, rfl, k.respondIf f _⟩
  | lossLimitReached f => exact ⟨_, rfl, k.respondIf f _⟩
  | electionFailed f =>
    refine ⟨_, rfl, ?_⟩
    split
    · exact k.respondIf f _
    · exact k.same s
  | switchInstall =>
    refine ⟨_, rfl, ?_⟩
    split
    · rename_i hl
      refine k.startFrame s ?_
      rcases hl.1 with e | e <;> simp [FrameEngine.running, e]
    · exact k.same s
  | frameEnd p =>
    refine ⟨_, rfl, ?_⟩
    split
    · rename_i hb
      exact k.endFrame s p hb
    · exact k.same s
  | quietFramesEnd p =>
    refine ⟨_, rfl, ?_⟩
    split
    · rename_i hb
      exact k.endFrame s p hb.1
    · exact k.same s
  | linkCfg w => exact ⟨_, rfl, k.whenAlive (k.linkCfg s w)⟩
  | xchgCfg w => exact ⟨_, rfl, k.whenAlive (k.xchgCfg s w)⟩
  | linkErrorsClear => exact ⟨_, rfl, k.whenAlive (k.linkErrors s)⟩
  | surveyStart => exact ⟨_, rfl, k.whenAlive (k.surveyStart s)⟩
  | commitCheck => exact ⟨_, rfl, k.whenAlive (k.commit s _)⟩
  | commitApply => exact ⟨_, rfl, k.whenAlive (k.commit s _)⟩
  | chgAppend => exact ⟨_, rfl, k.whenAlive (k.appendChange s)⟩
  | chgClear => exact ⟨_, rfl, k.whenAlive (k.clearChanges s)⟩
  | reqSubmit => exact ⟨_, rfl, k.whenAlive (k.submit s)⟩
  | reqFlush => exact ⟨_, rfl, k.whenAlive (k.flush s)⟩
  | cplPop => exact ⟨_, rfl, k.whenAlive (k.popCompletion s)⟩
  | gapPop => exact ⟨_, rfl, k.whenAlive (k.popGap s)⟩
  | evtClear w => exact ⟨_, rfl, k.whenAlive (k.evtClear s w)⟩
  | sevtClear w => exact ⟨_, rfl, k.whenAlive (k.sevtClear s w)⟩
  | evtEnable w => exact ⟨_, rfl, k.whenAlive (k.evtEnable s w)⟩
  | sevtEnable w => exact ⟨_, rfl, k.whenAlive (k.sevtEnable s w)⟩
  | faultRecordClear => exact ⟨_, rfl, k.whenAlive (k.faultRecord s)⟩
  | streamCfg n w => exact ⟨_, rfl, k.whenAlive (k.streamCfg s n w)⟩
  | streamLevels n w => exact ⟨_, rfl, k.whenAlive (k.streamLevels s n w)⟩
  | streamEnable n d => exact ⟨_, rfl, k.whenAlive (k.streamCtrl s n _ _ d)⟩
  | streamDisable n d => exact ⟨_, rfl, k.whenAlive (k.streamCtrl s n _ _ d)⟩
  | dmaEnable n d => exact ⟨_, rfl, k.whenAlive (k.streamCtrl s n _ _ d)⟩
  | countsClear n => exact ⟨_, rfl, k.whenAlive (k.counts s n)⟩
  | captureRead n =>
    refine ⟨_, rfl, ?_⟩
    split
    · exact k.readData s 0
    · exact k.readPort s n
  | playbackWrite n w => exact ⟨_, rfl, k.whenAlive (k.writePort s n w)⟩
  | unmapped o a =>
    refine ⟨_, rfl, ?_⟩
    (repeat' split)
    · exact k.same s
    · exact k.accessHeld a
    · exact k.accessUnmapped o a
  | registerWrite o v l => exact ⟨_, rfl, k.whenAlive (k.hostWrite o _)⟩
  | resetNRelease =>
    refine ⟨_, rfl, ?_⟩
    split
    · exact k.same s
    · exact k.reset s true s.refclk
  | refclkRestart =>
    refine ⟨_, rfl, ?_⟩
    split
    · exact k.same s
    · exact k.reset s s.resetN true

/-- `P` is kept by each operation that a command can carry out. -/
structure Kept (P : State → Prop) : Prop where
  reset : ∀ (s : State) (a b : Bool), P ({ s with resetN := a, refclk := b }).deviceReset
  readData : ∀ (s : State) (w : Word), P s → P (s.setReadData w)
  fault : ∀ (s : State) (c : FaultCause) (o : WinOffset) (d : Option EnableDetail), P s → P (s.accessFault c o d)
  linkStart : ∀ s : State, P s → P s.linkStart
  linkStop : ∀ s : State, P s → P s.linkStop
  faultClear : ∀ s : State, P s → P s.faultClear
  linkCfg : ∀ (s : State) (w : Word), P s → P (s.writeLinkCfg w)
  xchgCfg : ∀ (s : State) (w : Word), P s → P (s.writeXchgCfg w)
  linkErrors : ∀ s : State, P s → P s.clearLinkErrors
  surveyStart : ∀ s : State, P s → P s.surveyStart
  commit : ∀ (s : State) (m : Option CommitMode), P s → P (s.writeCommit m)
  evtClear : ∀ (s : State) (w : Word), P s → P (s.writeEvtClear w)
  sevtClear : ∀ (s : State) (w : Word), P s → P (s.writeSevtClear w)
  evtEnable : ∀ (s : State) (w : Word), P s → P (s.writeEvtEnable w)
  sevtEnable : ∀ (s : State) (w : Word), P s → P (s.writeSevtEnable w)
  faultRecord : ∀ s : State, P s → P s.clearFaultRecord
  popGap : ∀ s : State, P s → P s.popGap
  appendChange : ∀ s : State, P s → P s.appendChange
  clearChanges : ∀ s : State, P s → P s.clearChanges
  chgStage0 : ∀ (s : State) (w : Word), P s → P (s.writeChgStage0 w)
  chgStage1 : ∀ (s : State) (w : Word), P s → P (s.writeChgStage1 w)
  reqStage0 : ∀ (s : State) (w : Word), P s → P (s.writeReqStage0 w)
  reqStage1 : ∀ (s : State) (w : Word), P s → P (s.writeReqStage1 w)
  submit : ∀ s : State, P s → P s.submitRequest
  flush : ∀ s : State, P s → P s.flushRequests
  popCompletion : ∀ s : State, P s → P s.popCompletion
  streamCfg : ∀ (s : State) (n : Fin 8) (w : Word), P s → P (s.writeStreamCfg n w)
  streamLevels : ∀ (s : State) (n : Fin 8) (w : Word), P s → P (s.writeStreamLevels n w)
  streamCtrl : ∀ (s : State) (n : Fin 8) (a b d : Bool), P s → P (s.writeStreamCtrl n a b d)
  counts : ∀ (s : State) (n : Fin 8), P s → P (s.clearCounts n)
  readPort : ∀ (s : State) (n : Fin 8), P s → P (s.readPort n)
  writePort : ∀ (s : State) (n : Fin 8) (w : Word), P s → P (s.writePort n w)
  placeField : ∀ s : State, P s → P s.placeField
  fieldSent : ∀ s : State, P s → P s.fieldSent
  startFrame : ∀ s : State, s.fe.running = true → P s → P s.startFrame
  cleanFrame : ∀ s : State, s.fe.before .compared = true → P s → P s.cleanFrame
  contention : ∀ s : State, s.fe.before .compared = true → P s → P s.contention
  endFrame : ∀ (s : State) (p : List Bool), s.fe.before .ended = true → P s → P (s.endFrame p)
  respond : ∀ (s : State) (f : BitVec 32), s.fe.before .answered = true → P s → P (s.respond f)

variable {P : State → Prop}

/-- What the operations keep, as a relation between a state and what an operation makes of it. -/
theorem Kept.makes (k : Kept P) : Makes fun s t => P s → P t where
  same _ h := h
  reset s a b _ := k.reset s a b
  readFault s w _ _ h := k.fault _ _ _ _ (k.readData s w h)
  readData s w h := k.readData s w h
  fault s c o d h := k.fault s c o d h
  linkStart s h := k.linkStart s h
  linkStop s h := k.linkStop s h
  faultClear s h := k.faultClear s h
  linkCfg s w h := k.linkCfg s w h
  xchgCfg s w h := k.xchgCfg s w h
  linkErrors s h := k.linkErrors s h
  surveyStart s h := k.surveyStart s h
  commit s m h := k.commit s m h
  evtClear s w h := k.evtClear s w h
  sevtClear s w h := k.sevtClear s w h
  evtEnable s w h := k.evtEnable s w h
  sevtEnable s w h := k.sevtEnable s w h
  faultRecord s h := k.faultRecord s h
  popGap s h := k.popGap s h
  appendChange s h := k.appendChange s h
  clearChanges s h := k.clearChanges s h
  chgStage0 s w h := k.chgStage0 s w h
  chgStage1 s w h := k.chgStage1 s w h
  reqStage0 s w h := k.reqStage0 s w h
  reqStage1 s w h := k.reqStage1 s w h
  submit s h := k.submit s h
  flush s h := k.flush s h
  popCompletion s h := k.popCompletion s h
  streamCfg s n w h := k.streamCfg s n w h
  streamLevels s n w h := k.streamLevels s n w h
  streamCtrl s n a b d h := k.streamCtrl s n a b d h
  counts s n h := k.counts s n h
  readPort s n h := k.readPort s n h
  writePort s n w h := k.writePort s n w h
  placeField s h := k.placeField s h
  fieldSent s h := k.fieldSent s h
  startFrame s hr h := k.startFrame s hr h
  cleanFrame s hb h := k.cleanFrame s hb h
  contention s hb h := k.contention s hb h
  endFrame s p hb h := k.endFrame s p hb h
  respond s f hb h := k.respond s f hb h

/-- Every command answers a next state, and keeps every property the operations keep. -/
theorem exec_kept (k : Kept P) (c : Instr) {s : State} (h : P s) : ∃ t, exec c s = .next t ∧ P t := by
  obtain ⟨t, e, ht⟩ := exec_makes k.makes c s
  exact ⟨t, e, ht h⟩

/-- A property that the operations keep, and that does not look at the queue, is kept by every step. -/
theorem step_kept (k : Kept P) (hq : ∀ (s : State) (q : List Instr), P s → P (s.setPending q)) {s t : State}
    (h : P s) (e : step s = .next t) : P t := by
  unfold step at e
  split at e
  · cases e
    exact h
  · obtain ⟨u, hu, hP⟩ := exec_kept k _ (hq s _ h)
    rw [hu] at e
    cases e
    exact hP

end Sys2Proof.Machine
end

