-- ==== Sys2Proof/Laws/Frames.lean ====
section
/-! SUPPORT. Frames of the shared operations: which blocks each one leaves as they are. -/
set_option Elab.async false

namespace Sys2Proof.Machine

/-! ### recordGap -/

@[simp] theorem State.recordGap_resetN (s : State) (g : GapRecord) : (s.recordGap g).resetN = s.resetN := by
  unfold State.recordGap; split <;> rfl
@[simp] theorem State.recordGap_refclk (s : State) (g : GapRecord) : (s.recordGap g).refclk = s.refclk := by
  unfold State.recordGap; split <;> rfl
@[simp] theorem State.recordGap_fe (s : State) (g : GapRecord) : (s.recordGap g).fe = s.fe := by
  unfold State.recordGap; split <;> rfl
@[simp] theorem State.recordGap_cx (s : State) (g : GapRecord) : (s.recordGap g).cx = s.cx := by
  unfold State.recordGap; split <;> rfl
@[simp] theorem State.recordGap_nd (s : State) (g : GapRecord) : (s.recordGap g).nd = s.nd := by
  unfold State.recordGap; split <;> rfl
@[simp] theorem State.recordGap_sv (s : State) (g : GapRecord) : (s.recordGap g).sv = s.sv := by
  unfold State.recordGap; split <;> rfl
@[simp] theorem State.recordGap_sm (s : State) (g : GapRecord) : (s.recordGap g).sm = s.sm := by
  unfold State.recordGap; split <;> rfl
@[simp] theorem State.recordGap_cl (s : State) (g : GapRecord) : (s.recordGap g).cl = s.cl := by
  unfold State.recordGap; split <;> rfl
@[simp] theorem State.recordGap_ce (s : State) (g : GapRecord) : (s.recordGap g).ce = s.ce := by
  unfold State.recordGap; split <;> rfl
@[simp] theorem State.recordGap_su (s : State) (g : GapRecord) : (s.recordGap g).su = s.su := by
  unfold State.recordGap; split <;> rfl
@[simp] theorem State.recordGap_rq (s : State) (g : GapRecord) : (s.recordGap g).rq = s.rq := by
  unfold State.recordGap; split <;> rfl
@[simp] theorem State.recordGap_readData (s : State) (g : GapRecord) : (s.recordGap g).readData = s.readData := by
  unfold State.recordGap; split <;> rfl
@[simp] theorem State.recordGap_pending (s : State) (g : GapRecord) : (s.recordGap g).pending = s.pending := by
  unfold State.recordGap; split <;> rfl

/-! ### stopSurvey -/

@[simp] theorem State.stopSurvey_resetN (s : State) : (s.stopSurvey).resetN = s.resetN := by
  unfold State.stopSurvey; split <;> rfl
@[simp] theorem State.stopSurvey_refclk (s : State) : (s.stopSurvey).refclk = s.refclk := by
  unfold State.stopSurvey; split <;> rfl
@[simp] theorem State.stopSurvey_fe (s : State) : (s.stopSurvey).fe = s.fe := by
  unfold State.stopSurvey; split <;> rfl
@[simp] theorem State.stopSurvey_cx (s : State) : (s.stopSurvey).cx = s.cx := by
  unfold State.stopSurvey; split <;> rfl
@[simp] theorem State.stopSurvey_nd (s : State) : (s.stopSurvey).nd = s.nd := by
  unfold State.stopSurvey; split <;> rfl
@[simp] theorem State.stopSurvey_sm (s : State) : (s.stopSurvey).sm = s.sm := by
  unfold State.stopSurvey; split <;> rfl
@[simp] theorem State.stopSurvey_cl (s : State) : (s.stopSurvey).cl = s.cl := by
  unfold State.stopSurvey; split <;> rfl
@[simp] theorem State.stopSurvey_ce (s : State) : (s.stopSurvey).ce = s.ce := by
  unfold State.stopSurvey; split <;> rfl
@[simp] theorem State.stopSurvey_su (s : State) : (s.stopSurvey).su = s.su := by
  unfold State.stopSurvey; split <;> rfl
@[simp] theorem State.stopSurvey_rq (s : State) : (s.stopSurvey).rq = s.rq := by
  unfold State.stopSurvey; split <;> rfl
@[simp] theorem State.stopSurvey_readData (s : State) : (s.stopSurvey).readData = s.readData := by
  unfold State.stopSurvey; split <;> rfl
@[simp] theorem State.stopSurvey_pending (s : State) : (s.stopSurvey).pending = s.pending := by
  unfold State.stopSurvey; split <;> rfl

/-! ### linkDownClear -/

@[simp] theorem State.linkDownClear_resetN (s : State) : (s.linkDownClear).resetN = s.resetN := by
  simp [State.linkDownClear]
@[simp] theorem State.linkDownClear_refclk (s : State) : (s.linkDownClear).refclk = s.refclk := by
  simp [State.linkDownClear]
@[simp] theorem State.linkDownClear_cl (s : State) : (s.linkDownClear).cl = s.cl := by
  simp [State.linkDownClear]
@[simp] theorem State.linkDownClear_readData (s : State) : (s.linkDownClear).readData = s.readData := by
  simp [State.linkDownClear]
@[simp] theorem State.linkDownClear_pending (s : State) : (s.linkDownClear).pending = s.pending := by
  simp [State.linkDownClear]

/-! ### enterDown -/

@[simp] theorem State.enterDown_resetN (s : State) : (s.enterDown).resetN = s.resetN := by
  simp [State.enterDown]
@[simp] theorem State.enterDown_refclk (s : State) : (s.enterDown).refclk = s.refclk := by
  simp [State.enterDown]
@[simp] theorem State.enterDown_cl (s : State) : (s.enterDown).cl = s.cl := by
  simp [State.enterDown]
@[simp] theorem State.enterDown_readData (s : State) : (s.enterDown).readData = s.readData := by
  simp [State.enterDown]
@[simp] theorem State.enterDown_pending (s : State) : (s.enterDown).pending = s.pending := by
  simp [State.enterDown]

/-! ### failInFlightRequest -/

@[simp] theorem State.failInFlightRequest_resetN (s : State) : (s.failInFlightRequest).resetN = s.resetN := by
  unfold State.failInFlightRequest; (repeat' split) <;> rfl
@[simp] theorem State.failInFlightRequest_refclk (s : State) : (s.failInFlightRequest).refclk = s.refclk := by
  unfold State.failInFlightRequest; (repeat' split) <;> rfl
@[simp] theorem State.failInFlightRequest_fe (s : State) : (s.failInFlightRequest).fe = s.fe := by
  unfold State.failInFlightRequest; (repeat' split) <;> rfl
@[simp] theorem State.failInFlightRequest_cx (s : State) : (s.failInFlightRequest).cx = s.cx := by
  unfold State.failInFlightRequest; (repeat' split) <;> rfl
@[simp] theorem State.failInFlightRequest_nd (s : State) : (s.failInFlightRequest).nd = s.nd := by
  unfold State.failInFlightRequest; (repeat' split) <;> rfl
@[simp] theorem State.failInFlightRequest_sv (s : State) : (s.failInFlightRequest).sv = s.sv := by
  unfold State.failInFlightRequest; (repeat' split) <;> rfl
@[simp] theorem State.failInFlightRequest_sm (s : State) : (s.failInFlightRequest).sm = s.sm := by
  unfold State.failInFlightRequest; (repeat' split) <;> rfl
@[simp] theorem State.failInFlightRequest_cl (s : State) : (s.failInFlightRequest).cl = s.cl := by
  unfold State.failInFlightRequest; (repeat' split) <;> rfl
@[simp] theorem State.failInFlightRequest_ce (s : State) : (s.failInFlightRequest).ce = s.ce := by
  unfold State.failInFlightRequest; (repeat' split) <;> rfl
@[simp] theorem State.failInFlightRequest_su (s : State) : (s.failInFlightRequest).su = s.su := by
  unfold State.failInFlightRequest; (repeat' split) <;> rfl
@[simp] theorem State.failInFlightRequest_eu (s : State) : (s.failInFlightRequest).eu = s.eu := by
  unfold State.failInFlightRequest; (repeat' split) <;> rfl
@[simp] theorem State.failInFlightRequest_readData (s : State) : (s.failInFlightRequest).readData = s.readData := by
  unfold State.failInFlightRequest; (repeat' split) <;> rfl
@[simp] theorem State.failInFlightRequest_pending (s : State) : (s.failInFlightRequest).pending = s.pending := by
  unfold State.failInFlightRequest; (repeat' split) <;> rfl

/-! ### failCommit -/

@[simp] theorem State.failCommit_resetN (s : State) : (s.failCommit).resetN = s.resetN := by
  unfold State.failCommit; split <;> rfl
@[simp] theorem State.failCommit_refclk (s : State) : (s.failCommit).refclk = s.refclk := by
  unfold State.failCommit; split <;> rfl
@[simp] theorem State.failCommit_fe (s : State) : (s.failCommit).fe = s.fe := by
  unfold State.failCommit; split <;> rfl
@[simp] theorem State.failCommit_cx (s : State) : (s.failCommit).cx = s.cx := by
  unfold State.failCommit; split <;> rfl
@[simp] theorem State.failCommit_nd (s : State) : (s.failCommit).nd = s.nd := by
  unfold State.failCommit; split <;> rfl
@[simp] theorem State.failCommit_sv (s : State) : (s.failCommit).sv = s.sv := by
  unfold State.failCommit; split <;> rfl
@[simp] theorem State.failCommit_sm (s : State) : (s.failCommit).sm = s.sm := by
  unfold State.failCommit; split <;> rfl
@[simp] theorem State.failCommit_cl (s : State) : (s.failCommit).cl = s.cl := by
  unfold State.failCommit; split <;> rfl
@[simp] theorem State.failCommit_su (s : State) : (s.failCommit).su = s.su := by
  unfold State.failCommit; split <;> rfl
@[simp] theorem State.failCommit_rq (s : State) : (s.failCommit).rq = s.rq := by
  unfold State.failCommit; split <;> rfl
@[simp] theorem State.failCommit_readData (s : State) : (s.failCommit).readData = s.readData := by
  unfold State.failCommit; split <;> rfl
@[simp] theorem State.failCommit_pending (s : State) : (s.failCommit).pending = s.pending := by
  unfold State.failCommit; split <;> rfl

/-! ### enterFault -/

@[simp] theorem State.enterFault_resetN (s : State) : (s.enterFault).resetN = s.resetN := by
  simp [State.enterFault]
@[simp] theorem State.enterFault_refclk (s : State) : (s.enterFault).refclk = s.refclk := by
  simp [State.enterFault]
@[simp] theorem State.enterFault_cl (s : State) : (s.enterFault).cl = s.cl := by
  simp [State.enterFault]
@[simp] theorem State.enterFault_readData (s : State) : (s.enterFault).readData = s.readData := by
  simp [State.enterFault]
@[simp] theorem State.enterFault_pending (s : State) : (s.enterFault).pending = s.pending := by
  simp [State.enterFault]

/-! ### fixSwitchFrame -/

@[simp] theorem State.fixSwitchFrame_resetN (s : State) : (s.fixSwitchFrame).resetN = s.resetN := by
  unfold State.fixSwitchFrame; split <;> rfl
@[simp] theorem State.fixSwitchFrame_refclk (s : State) : (s.fixSwitchFrame).refclk = s.refclk := by
  unfold State.fixSwitchFrame; split <;> rfl
@[simp] theorem State.fixSwitchFrame_fe (s : State) : (s.fixSwitchFrame).fe = s.fe := by
  unfold State.fixSwitchFrame; split <;> rfl
@[simp] theorem State.fixSwitchFrame_cx (s : State) : (s.fixSwitchFrame).cx = s.cx := by
  unfold State.fixSwitchFrame; split <;> rfl
@[simp] theorem State.fixSwitchFrame_nd (s : State) : (s.fixSwitchFrame).nd = s.nd := by
  unfold State.fixSwitchFrame; split <;> rfl
@[simp] theorem State.fixSwitchFrame_sv (s : State) : (s.fixSwitchFrame).sv = s.sv := by
  unfold State.fixSwitchFrame; split <;> rfl
@[simp] theorem State.fixSwitchFrame_sm (s : State) : (s.fixSwitchFrame).sm = s.sm := by
  unfold State.fixSwitchFrame; split <;> rfl
@[simp] theorem State.fixSwitchFrame_cl (s : State) : (s.fixSwitchFrame).cl = s.cl := by
  unfold State.fixSwitchFrame; split <;> rfl
@[simp] theorem State.fixSwitchFrame_su (s : State) : (s.fixSwitchFrame).su = s.su := by
  unfold State.fixSwitchFrame; split <;> rfl
@[simp] theorem State.fixSwitchFrame_rq (s : State) : (s.fixSwitchFrame).rq = s.rq := by
  unfold State.fixSwitchFrame; split <;> rfl
@[simp] theorem State.fixSwitchFrame_eu (s : State) : (s.fixSwitchFrame).eu = s.eu := by
  unfold State.fixSwitchFrame; split <;> rfl
@[simp] theorem State.fixSwitchFrame_readData (s : State) : (s.fixSwitchFrame).readData = s.readData := by
  unfold State.fixSwitchFrame; split <;> rfl
@[simp] theorem State.fixSwitchFrame_pending (s : State) : (s.fixSwitchFrame).pending = s.pending := by
  unfold State.fixSwitchFrame; split <;> rfl

/-! ### placeField -/

@[simp] theorem State.placeField_resetN (s : State) : (s.placeField).resetN = s.resetN := by
  unfold State.placeField; split <;> simp [State.writeField]
@[simp] theorem State.placeField_refclk (s : State) : (s.placeField).refclk = s.refclk := by
  unfold State.placeField; split <;> simp [State.writeField]
@[simp] theorem State.placeField_nd (s : State) : (s.placeField).nd = s.nd := by
  unfold State.placeField; split <;> simp [State.writeField]
@[simp] theorem State.placeField_sv (s : State) : (s.placeField).sv = s.sv := by
  unfold State.placeField; split <;> simp [State.writeField]
@[simp] theorem State.placeField_sm (s : State) : (s.placeField).sm = s.sm := by
  unfold State.placeField; split <;> simp [State.writeField]
@[simp] theorem State.placeField_cl (s : State) : (s.placeField).cl = s.cl := by
  unfold State.placeField; split <;> simp [State.writeField]
@[simp] theorem State.placeField_su (s : State) : (s.placeField).su = s.su := by
  unfold State.placeField; split <;> simp [State.writeField]
@[simp] theorem State.placeField_rq (s : State) : (s.placeField).rq = s.rq := by
  unfold State.placeField; split <;> simp [State.writeField]
@[simp] theorem State.placeField_eu (s : State) : (s.placeField).eu = s.eu := by
  unfold State.placeField; split <;> simp [State.writeField]
@[simp] theorem State.placeField_readData (s : State) : (s.placeField).readData = s.readData := by
  unfold State.placeField; split <;> simp [State.writeField]
@[simp] theorem State.placeField_pending (s : State) : (s.placeField).pending = s.pending := by
  unfold State.placeField; split <;> simp [State.writeField]

/-! ### sendIf -/

@[simp] theorem State.sendIf_resetN (s : State) (p : LinkCommand → Bool) : (s.sendIf p).resetN = s.resetN := by
  unfold State.sendIf; (repeat' split) <;> simp
@[simp] theorem State.sendIf_refclk (s : State) (p : LinkCommand → Bool) : (s.sendIf p).refclk = s.refclk := by
  unfold State.sendIf; (repeat' split) <;> simp
@[simp] theorem State.sendIf_nd (s : State) (p : LinkCommand → Bool) : (s.sendIf p).nd = s.nd := by
  unfold State.sendIf; (repeat' split) <;> simp
@[simp] theorem State.sendIf_sv (s : State) (p : LinkCommand → Bool) : (s.sendIf p).sv = s.sv := by
  unfold State.sendIf; (repeat' split) <;> simp
@[simp] theorem State.sendIf_sm (s : State) (p : LinkCommand → Bool) : (s.sendIf p).sm = s.sm := by
  unfold State.sendIf; (repeat' split) <;> simp
@[simp] theorem State.sendIf_cl (s : State) (p : LinkCommand → Bool) : (s.sendIf p).cl = s.cl := by
  unfold State.sendIf; (repeat' split) <;> simp
@[simp] theorem State.sendIf_su (s : State) (p : LinkCommand → Bool) : (s.sendIf p).su = s.su := by
  unfold State.sendIf; (repeat' split) <;> simp
@[simp] theorem State.sendIf_rq (s : State) (p : LinkCommand → Bool) : (s.sendIf p).rq = s.rq := by
  unfold State.sendIf; (repeat' split) <;> simp
@[simp] theorem State.sendIf_eu (s : State) (p : LinkCommand → Bool) : (s.sendIf p).eu = s.eu := by
  unfold State.sendIf; (repeat' split) <;> simp
@[simp] theorem State.sendIf_readData (s : State) (p : LinkCommand → Bool) : (s.sendIf p).readData = s.readData := by
  unfold State.sendIf; (repeat' split) <;> simp
@[simp] theorem State.sendIf_pending (s : State) (p : LinkCommand → Bool) : (s.sendIf p).pending = s.pending := by
  unfold State.sendIf; (repeat' split) <;> simp

/-! ### countCopy -/

@[simp] theorem State.countCopy_resetN (s : State) : (s.countCopy).resetN = s.resetN := by
  unfold State.countCopy; split <;> simp
@[simp] theorem State.countCopy_refclk (s : State) : (s.countCopy).refclk = s.refclk := by
  unfold State.countCopy; split <;> simp
@[simp] theorem State.countCopy_fe (s : State) : (s.countCopy).fe = s.fe := by
  unfold State.countCopy; split <;> simp
@[simp] theorem State.countCopy_cx (s : State) : (s.countCopy).cx = s.cx := by
  unfold State.countCopy; split <;> simp
@[simp] theorem State.countCopy_nd (s : State) : (s.countCopy).nd = s.nd := by
  unfold State.countCopy; split <;> simp
@[simp] theorem State.countCopy_sv (s : State) : (s.countCopy).sv = s.sv := by
  unfold State.countCopy; split <;> simp
@[simp] theorem State.countCopy_sm (s : State) : (s.countCopy).sm = s.sm := by
  unfold State.countCopy; split <;> simp
@[simp] theorem State.countCopy_cl (s : State) : (s.countCopy).cl = s.cl := by
  unfold State.countCopy; split <;> simp
@[simp] theorem State.countCopy_su (s : State) : (s.countCopy).su = s.su := by
  unfold State.countCopy; split <;> simp
@[simp] theorem State.countCopy_rq (s : State) : (s.countCopy).rq = s.rq := by
  unfold State.countCopy; split <;> simp
@[simp] theorem State.countCopy_readData (s : State) : (s.countCopy).readData = s.readData := by
  unfold State.countCopy; split <;> simp
@[simp] theorem State.countCopy_pending (s : State) : (s.countCopy).pending = s.pending := by
  unfold State.countCopy; split <;> simp

/-! ### concludeBroadcast -/

@[simp] theorem State.concludeBroadcast_resetN (s : State) : (s.concludeBroadcast).resetN = s.resetN := by
  unfold State.concludeBroadcast; (repeat' split) <;> simp
@[simp] theorem State.concludeBroadcast_refclk (s : State) : (s.concludeBroadcast).refclk = s.refclk := by
  unfold State.concludeBroadcast; (repeat' split) <;> simp
@[simp] theorem State.concludeBroadcast_fe (s : State) : (s.concludeBroadcast).fe = s.fe := by
  unfold State.concludeBroadcast; (repeat' split) <;> simp
@[simp] theorem State.concludeBroadcast_nd (s : State) : (s.concludeBroadcast).nd = s.nd := by
  unfold State.concludeBroadcast; (repeat' split) <;> simp
@[simp] theorem State.concludeBroadcast_sv (s : State) : (s.concludeBroadcast).sv = s.sv := by
  unfold State.concludeBroadcast; (repeat' split) <;> simp
@[simp] theorem State.concludeBroadcast_sm (s : State) : (s.concludeBroadcast).sm = s.sm := by
  unfold State.concludeBroadcast; (repeat' split) <;> simp
@[simp] theorem State.concludeBroadcast_cl (s : State) : (s.concludeBroadcast).cl = s.cl := by
  unfold State.concludeBroadcast; (repeat' split) <;> simp
@[simp] theorem State.concludeBroadcast_su (s : State) : (s.concludeBroadcast).su = s.su := by
  unfold State.concludeBroadcast; (repeat' split) <;> simp
@[simp] theorem State.concludeBroadcast_rq (s : State) : (s.concludeBroadcast).rq = s.rq := by
  unfold State.concludeBroadcast; (repeat' split) <;> simp
@[simp] theorem State.concludeBroadcast_readData (s : State) : (s.concludeBroadcast).readData = s.readData := by
  unfold State.concludeBroadcast; (repeat' split) <;> simp
@[simp] theorem State.concludeBroadcast_pending (s : State) : (s.concludeBroadcast).pending = s.pending := by
  unfold State.concludeBroadcast; (repeat' split) <;> simp

/-! ### fieldSent -/

@[simp] theorem State.fieldSent_resetN (s : State) : (s.fieldSent).resetN = s.resetN := by
  unfold State.fieldSent; split <;> simp
@[simp] theorem State.fieldSent_refclk (s : State) : (s.fieldSent).refclk = s.refclk := by
  unfold State.fieldSent; split <;> simp
@[simp] theorem State.fieldSent_nd (s : State) : (s.fieldSent).nd = s.nd := by
  unfold State.fieldSent; split <;> simp
@[simp] theorem State.fieldSent_sv (s : State) : (s.fieldSent).sv = s.sv := by
  unfold State.fieldSent; split <;> simp
@[simp] theorem State.fieldSent_sm (s : State) : (s.fieldSent).sm = s.sm := by
  unfold State.fieldSent; split <;> simp
@[simp] theorem State.fieldSent_cl (s : State) : (s.fieldSent).cl = s.cl := by
  unfold State.fieldSent; split <;> simp
@[simp] theorem State.fieldSent_su (s : State) : (s.fieldSent).su = s.su := by
  unfold State.fieldSent; split <;> simp
@[simp] theorem State.fieldSent_rq (s : State) : (s.fieldSent).rq = s.rq := by
  unfold State.fieldSent; split <;> simp
@[simp] theorem State.fieldSent_readData (s : State) : (s.fieldSent).readData = s.readData := by
  unfold State.fieldSent; split <;> simp
@[simp] theorem State.fieldSent_pending (s : State) : (s.fieldSent).pending = s.pending := by
  unfold State.fieldSent; split <;> simp

/-! ### applyMove -/

/-- A projection that the four updates of a stream's move leave as it is, the whole move leaves as it is. -/
theorem applyMove_keeps {β : Type} (s : State) (n : Fin 8) (mv : StreamMove) (p : State → β)
    (hs : ∀ (t : State) (x : StreamUnit), p (t.setSu x) = p t) (hx : ∀ t : State, p (t.raiseXrun n) = p t)
    (hg : ∀ (t : State) (g : GapRecord), p (t.recordGap g) = p t) (hn : ∀ t : State, p (t.setStream n mv.stream) = p t) :
    p (s.applyMove n mv) = p s := by
  have hf : ∀ (l : List GapRecord) (t : State), p (l.foldl State.recordGap t) = p t := by
    intro l
    induction l with
    | nil => intro t; rfl
    | cons g l ih => intro t; rw [List.foldl_cons, ih, hg]
  unfold State.applyMove
  dsimp only
  rw [hs, hf]
  split
  · rw [hx, hn]
  · rw [hn]

@[simp] theorem State.applyMove_resetN (s : State) (n : Fin 8) (mv : StreamMove) : (s.applyMove n mv).resetN = s.resetN :=
  applyMove_keeps s n mv State.resetN (by simp) (by simp) (by simp) (by simp)
@[simp] theorem State.applyMove_refclk (s : State) (n : Fin 8) (mv : StreamMove) : (s.applyMove n mv).refclk = s.refclk :=
  applyMove_keeps s n mv State.refclk (by simp) (by simp) (by simp) (by simp)
@[simp] theorem State.applyMove_fe (s : State) (n : Fin 8) (mv : StreamMove) : (s.applyMove n mv).fe = s.fe :=
  applyMove_keeps s n mv State.fe (by simp) (by simp) (by simp) (by simp)
@[simp] theorem State.applyMove_cx (s : State) (n : Fin 8) (mv : StreamMove) : (s.applyMove n mv).cx = s.cx :=
  applyMove_keeps s n mv State.cx (by simp) (by simp) (by simp) (by simp)
@[simp] theorem State.applyMove_nd (s : State) (n : Fin 8) (mv : StreamMove) : (s.applyMove n mv).nd = s.nd :=
  applyMove_keeps s n mv State.nd (by simp) (by simp) (by simp) (by simp)
@[simp] theorem State.applyMove_sv (s : State) (n : Fin 8) (mv : StreamMove) : (s.applyMove n mv).sv = s.sv :=
  applyMove_keeps s n mv State.sv (by simp) (by simp) (by simp) (by simp)
@[simp] theorem State.applyMove_sm (s : State) (n : Fin 8) (mv : StreamMove) : (s.applyMove n mv).sm = s.sm :=
  applyMove_keeps s n mv State.sm (by simp) (by simp) (by simp) (by simp)
@[simp] theorem State.applyMove_cl (s : State) (n : Fin 8) (mv : StreamMove) : (s.applyMove n mv).cl = s.cl :=
  applyMove_keeps s n mv State.cl (by simp) (by simp) (by simp) (by simp)
@[simp] theorem State.applyMove_ce (s : State) (n : Fin 8) (mv : StreamMove) : (s.applyMove n mv).ce = s.ce :=
  applyMove_keeps s n mv State.ce (by simp) (by simp) (by simp) (by simp)
@[simp] theorem State.applyMove_rq (s : State) (n : Fin 8) (mv : StreamMove) : (s.applyMove n mv).rq = s.rq :=
  applyMove_keeps s n mv State.rq (by simp) (by simp) (by simp) (by simp)
@[simp] theorem State.applyMove_readData (s : State) (n : Fin 8) (mv : StreamMove) : (s.applyMove n mv).readData = s.readData :=
  applyMove_keeps s n mv State.readData (by simp) (by simp) (by simp) (by simp)
@[simp] theorem State.applyMove_pending (s : State) (n : Fin 8) (mv : StreamMove) : (s.applyMove n mv).pending = s.pending :=
  applyMove_keeps s n mv State.pending (by simp) (by simp) (by simp) (by simp)

/-! ### startStreams -/

/-- What each stream's move leaves as it is, the moves of all streams leave as it is. -/
theorem streams_keep {β : Type} (mv : State → Fin 8 → StreamMove) (l : List (Fin 8)) (p : State → β)
    (h : ∀ (t : State) (n : Fin 8) (m : StreamMove), p (t.applyMove n m) = p t) (s : State) :
    p (l.foldl (fun t n => t.applyMove n (mv t n)) s) = p s := by
  induction l generalizing s with
  | nil => rfl
  | cons n l ih => rw [List.foldl_cons, ih, h]

@[simp] theorem State.startStreams_resetN (s : State) : s.startStreams.resetN = s.resetN :=
  streams_keep _ _ State.resetN (by simp) s
@[simp] theorem State.startStreams_refclk (s : State) : s.startStreams.refclk = s.refclk :=
  streams_keep _ _ State.refclk (by simp) s
@[simp] theorem State.startStreams_fe (s : State) : s.startStreams.fe = s.fe :=
  streams_keep _ _ State.fe (by simp) s
@[simp] theorem State.startStreams_cx (s : State) : s.startStreams.cx = s.cx :=
  streams_keep _ _ State.cx (by simp) s
@[simp] theorem State.startStreams_nd (s : State) : s.startStreams.nd = s.nd :=
  streams_keep _ _ State.nd (by simp) s
@[simp] theorem State.startStreams_sv (s : State) : s.startStreams.sv = s.sv :=
  streams_keep _ _ State.sv (by simp) s
@[simp] theorem State.startStreams_sm (s : State) : s.startStreams.sm = s.sm :=
  streams_keep _ _ State.sm (by simp) s
@[simp] theorem State.startStreams_cl (s : State) : s.startStreams.cl = s.cl :=
  streams_keep _ _ State.cl (by simp) s
@[simp] theorem State.startStreams_ce (s : State) : s.startStreams.ce = s.ce :=
  streams_keep _ _ State.ce (by simp) s
@[simp] theorem State.startStreams_rq (s : State) : s.startStreams.rq = s.rq :=
  streams_keep _ _ State.rq (by simp) s
@[simp] theorem State.startStreams_readData (s : State) : s.startStreams.readData = s.readData :=
  streams_keep _ _ State.readData (by simp) s
@[simp] theorem State.startStreams_pending (s : State) : s.startStreams.pending = s.pending :=
  streams_keep _ _ State.pending (by simp) s

/-! ### endStreams -/

@[simp] theorem State.endStreams_resetN (s : State) (p : List Bool) : (s.endStreams p).resetN = s.resetN :=
  streams_keep _ _ State.resetN (by simp) s
@[simp] theorem State.endStreams_refclk (s : State) (p : List Bool) : (s.endStreams p).refclk = s.refclk :=
  streams_keep _ _ State.refclk (by simp) s
@[simp] theorem State.endStreams_fe (s : State) (p : List Bool) : (s.endStreams p).fe = s.fe :=
  streams_keep _ _ State.fe (by simp) s
@[simp] theorem State.endStreams_cx (s : State) (p : List Bool) : (s.endStreams p).cx = s.cx :=
  streams_keep _ _ State.cx (by simp) s
@[simp] theorem State.endStreams_nd (s : State) (p : List Bool) : (s.endStreams p).nd = s.nd :=
  streams_keep _ _ State.nd (by simp) s
@[simp] theorem State.endStreams_sv (s : State) (p : List Bool) : (s.endStreams p).sv = s.sv :=
  streams_keep _ _ State.sv (by simp) s
@[simp] theorem State.endStreams_sm (s : State) (p : List Bool) : (s.endStreams p).sm = s.sm :=
  streams_keep _ _ State.sm (by simp) s
@[simp] theorem State.endStreams_cl (s : State) (p : List Bool) : (s.endStreams p).cl = s.cl :=
  streams_keep _ _ State.cl (by simp) s
@[simp] theorem State.endStreams_ce (s : State) (p : List Bool) : (s.endStreams p).ce = s.ce :=
  streams_keep _ _ State.ce (by simp) s
@[simp] theorem State.endStreams_rq (s : State) (p : List Bool) : (s.endStreams p).rq = s.rq :=
  streams_keep _ _ State.rq (by simp) s
@[simp] theorem State.endStreams_readData (s : State) (p : List Bool) : (s.endStreams p).readData = s.readData :=
  streams_keep _ _ State.readData (by simp) s
@[simp] theorem State.endStreams_pending (s : State) (p : List Bool) : (s.endStreams p).pending = s.pending :=
  streams_keep _ _ State.pending (by simp) s

/-! ### grantStaging -/

@[simp] theorem State.grantStaging_resetN (s : State) : (s.grantStaging).resetN = s.resetN := by
  unfold State.grantStaging; split <;> simp
@[simp] theorem State.grantStaging_refclk (s : State) : (s.grantStaging).refclk = s.refclk := by
  unfold State.grantStaging; split <;> simp
@[simp] theorem State.grantStaging_fe (s : State) : (s.grantStaging).fe = s.fe := by
  unfold State.grantStaging; split <;> simp
@[simp] theorem State.grantStaging_nd (s : State) : (s.grantStaging).nd = s.nd := by
  unfold State.grantStaging; split <;> simp
@[simp] theorem State.grantStaging_sv (s : State) : (s.grantStaging).sv = s.sv := by
  unfold State.grantStaging; split <;> simp
@[simp] theorem State.grantStaging_sm (s : State) : (s.grantStaging).sm = s.sm := by
  unfold State.grantStaging; split <;> simp
@[simp] theorem State.grantStaging_cl (s : State) : (s.grantStaging).cl = s.cl := by
  unfold State.grantStaging; split <;> simp
@[simp] theorem State.grantStaging_ce (s : State) : (s.grantStaging).ce = s.ce := by
  unfold State.grantStaging; split <;> simp
@[simp] theorem State.grantStaging_su (s : State) : (s.grantStaging).su = s.su := by
  unfold State.grantStaging; split <;> simp
@[simp] theorem State.grantStaging_rq (s : State) : (s.grantStaging).rq = s.rq := by
  unfold State.grantStaging; split <;> simp
@[simp] theorem State.grantStaging_eu (s : State) : (s.grantStaging).eu = s.eu := by
  unfold State.grantStaging; split <;> simp
@[simp] theorem State.grantStaging_readData (s : State) : (s.grantStaging).readData = s.readData := by
  unfold State.grantStaging; split <;> simp
@[simp] theorem State.grantStaging_pending (s : State) : (s.grantStaging).pending = s.pending := by
  unfold State.grantStaging; split <;> simp

/-! ### endAtValidation -/

@[simp] theorem State.endAtValidation_resetN (s : State) (r : CommitResult) : (s.endAtValidation r).resetN = s.resetN := by
  simp [State.endAtValidation]
@[simp] theorem State.endAtValidation_refclk (s : State) (r : CommitResult) : (s.endAtValidation r).refclk = s.refclk := by
  simp [State.endAtValidation]
@[simp] theorem State.endAtValidation_fe (s : State) (r : CommitResult) : (s.endAtValidation r).fe = s.fe := by
  simp [State.endAtValidation]
@[simp] theorem State.endAtValidation_cx (s : State) (r : CommitResult) : (s.endAtValidation r).cx = s.cx := by
  simp [State.endAtValidation]
@[simp] theorem State.endAtValidation_nd (s : State) (r : CommitResult) : (s.endAtValidation r).nd = s.nd := by
  simp [State.endAtValidation]
@[simp] theorem State.endAtValidation_sv (s : State) (r : CommitResult) : (s.endAtValidation r).sv = s.sv := by
  simp [State.endAtValidation]
@[simp] theorem State.endAtValidation_sm (s : State) (r : CommitResult) : (s.endAtValidation r).sm = s.sm := by
  simp [State.endAtValidation]
@[simp] theorem State.endAtValidation_cl (s : State) (r : CommitResult) : (s.endAtValidation r).cl = s.cl := by
  simp [State.endAtValidation]
@[simp] theorem State.endAtValidation_su (s : State) (r : CommitResult) : (s.endAtValidation r).su = s.su := by
  simp [State.endAtValidation]
@[simp] theorem State.endAtValidation_rq (s : State) (r : CommitResult) : (s.endAtValidation r).rq = s.rq := by
  simp [State.endAtValidation]
@[simp] theorem State.endAtValidation_readData (s : State) (r : CommitResult) : (s.endAtValidation r).readData = s.readData := by
  simp [State.endAtValidation]
@[simp] theorem State.endAtValidation_pending (s : State) (r : CommitResult) : (s.endAtValidation r).pending = s.pending := by
  simp [State.endAtValidation]

/-! ### beginStaging -/

@[simp] theorem State.beginStaging_resetN (s : State) (m : SlotTable) : (s.beginStaging m).resetN = s.resetN := by
  simp [State.beginStaging]
@[simp] theorem State.beginStaging_refclk (s : State) (m : SlotTable) : (s.beginStaging m).refclk = s.refclk := by
  simp [State.beginStaging]
@[simp] theorem State.beginStaging_fe (s : State) (m : SlotTable) : (s.beginStaging m).fe = s.fe := by
  simp [State.beginStaging]
@[simp] theorem State.beginStaging_cx (s : State) (m : SlotTable) : (s.beginStaging m).cx = s.cx := by
  simp [State.beginStaging]
@[simp] theorem State.beginStaging_nd (s : State) (m : SlotTable) : (s.beginStaging m).nd = s.nd := by
  simp [State.beginStaging]
@[simp] theorem State.beginStaging_sv (s : State) (m : SlotTable) : (s.beginStaging m).sv = s.sv := by
  simp [State.beginStaging]
@[simp] theorem State.beginStaging_sm (s : State) (m : SlotTable) : (s.beginStaging m).sm = s.sm := by
  simp [State.beginStaging]
@[simp] theorem State.beginStaging_cl (s : State) (m : SlotTable) : (s.beginStaging m).cl = s.cl := by
  simp [State.beginStaging]
@[simp] theorem State.beginStaging_su (s : State) (m : SlotTable) : (s.beginStaging m).su = s.su := by
  simp [State.beginStaging]
@[simp] theorem State.beginStaging_rq (s : State) (m : SlotTable) : (s.beginStaging m).rq = s.rq := by
  simp [State.beginStaging]
@[simp] theorem State.beginStaging_eu (s : State) (m : SlotTable) : (s.beginStaging m).eu = s.eu := by
  simp [State.beginStaging]
@[simp] theorem State.beginStaging_readData (s : State) (m : SlotTable) : (s.beginStaging m).readData = s.readData := by
  simp [State.beginStaging]
@[simp] theorem State.beginStaging_pending (s : State) (m : SlotTable) : (s.beginStaging m).pending = s.pending := by
  simp [State.beginStaging]

/-! ### validatePending -/

@[simp] theorem State.validatePending_resetN (s : State) : (s.validatePending).resetN = s.resetN := by
  unfold State.validatePending; split <;> simp
@[simp] theorem State.validatePending_refclk (s : State) : (s.validatePending).refclk = s.refclk := by
  unfold State.validatePending; split <;> simp
@[simp] theorem State.validatePending_fe (s : State) : (s.validatePending).fe = s.fe := by
  unfold State.validatePending; split <;> simp
@[simp] theorem State.validatePending_nd (s : State) : (s.validatePending).nd = s.nd := by
  unfold State.validatePending; split <;> simp
@[simp] theorem State.validatePending_sv (s : State) : (s.validatePending).sv = s.sv := by
  unfold State.validatePending; split <;> simp
@[simp] theorem State.validatePending_sm (s : State) : (s.validatePending).sm = s.sm := by
  unfold State.validatePending; split <;> simp
@[simp] theorem State.validatePending_su (s : State) : (s.validatePending).su = s.su := by
  unfold State.validatePending; split <;> simp
@[simp] theorem State.validatePending_rq (s : State) : (s.validatePending).rq = s.rq := by
  unfold State.validatePending; split <;> simp
@[simp] theorem State.validatePending_readData (s : State) : (s.validatePending).readData = s.readData := by
  unfold State.validatePending; split <;> simp
@[simp] theorem State.validatePending_pending (s : State) : (s.validatePending).pending = s.pending := by
  unfold State.validatePending; split <;> simp

/-! ### grantCopy -/

@[simp] theorem State.grantCopy_resetN (s : State) (c : LinkCommand) : (s.grantCopy c).resetN = s.resetN := by
  unfold State.grantCopy; split <;> simp
@[simp] theorem State.grantCopy_refclk (s : State) (c : LinkCommand) : (s.grantCopy c).refclk = s.refclk := by
  unfold State.grantCopy; split <;> simp
@[simp] theorem State.grantCopy_fe (s : State) (c : LinkCommand) : (s.grantCopy c).fe = s.fe := by
  unfold State.grantCopy; split <;> simp
@[simp] theorem State.grantCopy_nd (s : State) (c : LinkCommand) : (s.grantCopy c).nd = s.nd := by
  unfold State.grantCopy; split <;> simp
@[simp] theorem State.grantCopy_sv (s : State) (c : LinkCommand) : (s.grantCopy c).sv = s.sv := by
  unfold State.grantCopy; split <;> simp
@[simp] theorem State.grantCopy_sm (s : State) (c : LinkCommand) : (s.grantCopy c).sm = s.sm := by
  unfold State.grantCopy; split <;> simp
@[simp] theorem State.grantCopy_cl (s : State) (c : LinkCommand) : (s.grantCopy c).cl = s.cl := by
  unfold State.grantCopy; split <;> simp
@[simp] theorem State.grantCopy_ce (s : State) (c : LinkCommand) : (s.grantCopy c).ce = s.ce := by
  unfold State.grantCopy; split <;> simp
@[simp] theorem State.grantCopy_su (s : State) (c : LinkCommand) : (s.grantCopy c).su = s.su := by
  unfold State.grantCopy; split <;> simp
@[simp] theorem State.grantCopy_rq (s : State) (c : LinkCommand) : (s.grantCopy c).rq = s.rq := by
  unfold State.grantCopy; split <;> simp
@[simp] theorem State.grantCopy_eu (s : State) (c : LinkCommand) : (s.grantCopy c).eu = s.eu := by
  unfold State.grantCopy; split <;> simp
@[simp] theorem State.grantCopy_readData (s : State) (c : LinkCommand) : (s.grantCopy c).readData = s.readData := by
  unfold State.grantCopy; split <;> simp
@[simp] theorem State.grantCopy_pending (s : State) (c : LinkCommand) : (s.grantCopy c).pending = s.pending := by
  unfold State.grantCopy; split <;> simp

/-! ### offerCommit -/

@[simp] theorem State.offerCommit_resetN (s : State) : (s.offerCommit).resetN = s.resetN := by
  unfold State.offerCommit; (repeat' split) <;> simp
@[simp] theorem State.offerCommit_refclk (s : State) : (s.offerCommit).refclk = s.refclk := by
  unfold State.offerCommit; (repeat' split) <;> simp
@[simp] theorem State.offerCommit_fe (s : State) : (s.offerCommit).fe = s.fe := by
  unfold State.offerCommit; (repeat' split) <;> simp
@[simp] theorem State.offerCommit_nd (s : State) : (s.offerCommit).nd = s.nd := by
  unfold State.offerCommit; (repeat' split) <;> simp
@[simp] theorem State.offerCommit_sv (s : State) : (s.offerCommit).sv = s.sv := by
  unfold State.offerCommit; (repeat' split) <;> simp
@[simp] theorem State.offerCommit_sm (s : State) : (s.offerCommit).sm = s.sm := by
  unfold State.offerCommit; (repeat' split) <;> simp
@[simp] theorem State.offerCommit_su (s : State) : (s.offerCommit).su = s.su := by
  unfold State.offerCommit; (repeat' split) <;> simp
@[simp] theorem State.offerCommit_rq (s : State) : (s.offerCommit).rq = s.rq := by
  unfold State.offerCommit; (repeat' split) <;> simp
@[simp] theorem State.offerCommit_readData (s : State) : (s.offerCommit).readData = s.readData := by
  unfold State.offerCommit; (repeat' split) <;> simp
@[simp] theorem State.offerCommit_pending (s : State) : (s.offerCommit).pending = s.pending := by
  unfold State.offerCommit; (repeat' split) <;> simp

/-! ### offerSurvey -/

@[simp] theorem State.offerSurvey_resetN (s : State) : (s.offerSurvey).resetN = s.resetN := by
  unfold State.offerSurvey; (repeat' split) <;> simp
@[simp] theorem State.offerSurvey_refclk (s : State) : (s.offerSurvey).refclk = s.refclk := by
  unfold State.offerSurvey; (repeat' split) <;> simp
@[simp] theorem State.offerSurvey_fe (s : State) : (s.offerSurvey).fe = s.fe := by
  unfold State.offerSurvey; (repeat' split) <;> simp
@[simp] theorem State.offerSurvey_nd (s : State) : (s.offerSurvey).nd = s.nd := by
  unfold State.offerSurvey; (repeat' split) <;> simp
@[simp] theorem State.offerSurvey_sv (s : State) : (s.offerSurvey).sv = s.sv := by
  unfold State.offerSurvey; (repeat' split) <;> simp
@[simp] theorem State.offerSurvey_sm (s : State) : (s.offerSurvey).sm = s.sm := by
  unfold State.offerSurvey; (repeat' split) <;> simp
@[simp] theorem State.offerSurvey_cl (s : State) : (s.offerSurvey).cl = s.cl := by
  unfold State.offerSurvey; (repeat' split) <;> simp
@[simp] theorem State.offerSurvey_ce (s : State) : (s.offerSurvey).ce = s.ce := by
  unfold State.offerSurvey; (repeat' split) <;> simp
@[simp] theorem State.offerSurvey_su (s : State) : (s.offerSurvey).su = s.su := by
  unfold State.offerSurvey; (repeat' split) <;> simp
@[simp] theorem State.offerSurvey_rq (s : State) : (s.offerSurvey).rq = s.rq := by
  unfold State.offerSurvey; (repeat' split) <;> simp
@[simp] theorem State.offerSurvey_eu (s : State) : (s.offerSurvey).eu = s.eu := by
  unfold State.offerSurvey; (repeat' split) <;> simp
@[simp] theorem State.offerSurvey_readData (s : State) : (s.offerSurvey).readData = s.readData := by
  unfold State.offerSurvey; (repeat' split) <;> simp
@[simp] theorem State.offerSurvey_pending (s : State) : (s.offerSurvey).pending = s.pending := by
  unfold State.offerSurvey; (repeat' split) <;> simp

/-! ### settle -/

@[simp] theorem State.settle_resetN (s : State) (q : Request) (o : CplOutcome) (b : Bool) : (s.settle q o b).resetN = s.resetN := by
  unfold State.settle; split <;> simp
@[simp] theorem State.settle_refclk (s : State) (q : Request) (o : CplOutcome) (b : Bool) : (s.settle q o b).refclk = s.refclk := by
  unfold State.settle; split <;> simp
@[simp] theorem State.settle_fe (s : State) (q : Request) (o : CplOutcome) (b : Bool) : (s.settle q o b).fe = s.fe := by
  unfold State.settle; split <;> simp
@[simp] theorem State.settle_cx (s : State) (q : Request) (o : CplOutcome) (b : Bool) : (s.settle q o b).cx = s.cx := by
  unfold State.settle; split <;> simp
@[simp] theorem State.settle_sv (s : State) (q : Request) (o : CplOutcome) (b : Bool) : (s.settle q o b).sv = s.sv := by
  unfold State.settle; split <;> simp
@[simp] theorem State.settle_sm (s : State) (q : Request) (o : CplOutcome) (b : Bool) : (s.settle q o b).sm = s.sm := by
  unfold State.settle; split <;> simp
@[simp] theorem State.settle_cl (s : State) (q : Request) (o : CplOutcome) (b : Bool) : (s.settle q o b).cl = s.cl := by
  unfold State.settle; split <;> simp
@[simp] theorem State.settle_ce (s : State) (q : Request) (o : CplOutcome) (b : Bool) : (s.settle q o b).ce = s.ce := by
  unfold State.settle; split <;> simp
@[simp] theorem State.settle_su (s : State) (q : Request) (o : CplOutcome) (b : Bool) : (s.settle q o b).su = s.su := by
  unfold State.settle; split <;> simp
@[simp] theorem State.settle_eu (s : State) (q : Request) (o : CplOutcome) (b : Bool) : (s.settle q o b).eu = s.eu := by
  unfold State.settle; split <;> simp
@[simp] theorem State.settle_readData (s : State) (q : Request) (o : CplOutcome) (b : Bool) : (s.settle q o b).readData = s.readData := by
  unfold State.settle; split <;> simp
@[simp] theorem State.settle_pending (s : State) (q : Request) (o : CplOutcome) (b : Bool) : (s.settle q o b).pending = s.pending := by
  unfold State.settle; split <;> simp

/-! ### issueRequests -/

@[simp] theorem State.issueRequests_resetN (k : Nat) (s : State) : (State.issueRequests k s).resetN = s.resetN := by
  induction k generalizing s with
  | zero => rfl
  | succ k ih =>
    unfold State.issueRequests
    (repeat' split) <;> simp [ih]
@[simp] theorem State.issueRequests_refclk (k : Nat) (s : State) : (State.issueRequests k s).refclk = s.refclk := by
  induction k generalizing s with
  | zero => rfl
  | succ k ih =>
    unfold State.issueRequests
    (repeat' split) <;> simp [ih]
@[simp] theorem State.issueRequests_fe (k : Nat) (s : State) : (State.issueRequests k s).fe = s.fe := by
  induction k generalizing s with
  | zero => rfl
  | succ k ih =>
    unfold State.issueRequests
    (repeat' split) <;> simp [ih]
@[simp] theorem State.issueRequests_sv (k : Nat) (s : State) : (State.issueRequests k s).sv = s.sv := by
  induction k generalizing s with
  | zero => rfl
  | succ k ih =>
    unfold State.issueRequests
    (repeat' split) <;> simp [ih]
@[simp] theorem State.issueRequests_sm (k : Nat) (s : State) : (State.issueRequests k s).sm = s.sm := by
  induction k generalizing s with
  | zero => rfl
  | succ k ih =>
    unfold State.issueRequests
    (repeat' split) <;> simp [ih]
@[simp] theorem State.issueRequests_cl (k : Nat) (s : State) : (State.issueRequests k s).cl = s.cl := by
  induction k generalizing s with
  | zero => rfl
  | succ k ih =>
    unfold State.issueRequests
    (repeat' split) <;> simp [ih]
@[simp] theorem State.issueRequests_ce (k : Nat) (s : State) : (State.issueRequests k s).ce = s.ce := by
  induction k generalizing s with
  | zero => rfl
  | succ k ih =>
    unfold State.issueRequests
    (repeat' split) <;> simp [ih]
@[simp] theorem State.issueRequests_su (k : Nat) (s : State) : (State.issueRequests k s).su = s.su := by
  induction k generalizing s with
  | zero => rfl
  | succ k ih =>
    unfold State.issueRequests
    (repeat' split) <;> simp [ih]
@[simp] theorem State.issueRequests_eu (k : Nat) (s : State) : (State.issueRequests k s).eu = s.eu := by
  induction k generalizing s with
  | zero => rfl
  | succ k ih =>
    unfold State.issueRequests
    (repeat' split) <;> simp [ih]
@[simp] theorem State.issueRequests_readData (k : Nat) (s : State) : (State.issueRequests k s).readData = s.readData := by
  induction k generalizing s with
  | zero => rfl
  | succ k ih =>
    unfold State.issueRequests
    (repeat' split) <;> simp [ih]
@[simp] theorem State.issueRequests_pending (k : Nat) (s : State) : (State.issueRequests k s).pending = s.pending := by
  induction k generalizing s with
  | zero => rfl
  | succ k ih =>
    unfold State.issueRequests
    (repeat' split) <;> simp [ih]

/-! ### offerRequests -/

@[simp] theorem State.offerRequests_resetN (s : State) : (s.offerRequests).resetN = s.resetN := by
  unfold State.offerRequests; split <;> simp
@[simp] theorem State.offerRequests_refclk (s : State) : (s.offerRequests).refclk = s.refclk := by
  unfold State.offerRequests; split <;> simp
@[simp] theorem State.offerRequests_fe (s : State) : (s.offerRequests).fe = s.fe := by
  unfold State.offerRequests; split <;> simp
@[simp] theorem State.offerRequests_sv (s : State) : (s.offerRequests).sv = s.sv := by
  unfold State.offerRequests; split <;> simp
@[simp] theorem State.offerRequests_sm (s : State) : (s.offerRequests).sm = s.sm := by
  unfold State.offerRequests; split <;> simp
@[simp] theorem State.offerRequests_cl (s : State) : (s.offerRequests).cl = s.cl := by
  unfold State.offerRequests; split <;> simp
@[simp] theorem State.offerRequests_ce (s : State) : (s.offerRequests).ce = s.ce := by
  unfold State.offerRequests; split <;> simp
@[simp] theorem State.offerRequests_su (s : State) : (s.offerRequests).su = s.su := by
  unfold State.offerRequests; split <;> simp
@[simp] theorem State.offerRequests_eu (s : State) : (s.offerRequests).eu = s.eu := by
  unfold State.offerRequests; split <;> simp
@[simp] theorem State.offerRequests_readData (s : State) : (s.offerRequests).readData = s.readData := by
  unfold State.offerRequests; split <;> simp
@[simp] theorem State.offerRequests_pending (s : State) : (s.offerRequests).pending = s.pending := by
  unfold State.offerRequests; split <;> simp

/-! ### offerKeepalive -/

@[simp] theorem State.offerKeepalive_resetN (s : State) : (s.offerKeepalive).resetN = s.resetN := by
  unfold State.offerKeepalive; (repeat' split) <;> simp
@[simp] theorem State.offerKeepalive_refclk (s : State) : (s.offerKeepalive).refclk = s.refclk := by
  unfold State.offerKeepalive; (repeat' split) <;> simp
@[simp] theorem State.offerKeepalive_fe (s : State) : (s.offerKeepalive).fe = s.fe := by
  unfold State.offerKeepalive; (repeat' split) <;> simp
@[simp] theorem State.offerKeepalive_nd (s : State) : (s.offerKeepalive).nd = s.nd := by
  unfold State.offerKeepalive; (repeat' split) <;> simp
@[simp] theorem State.offerKeepalive_sv (s : State) : (s.offerKeepalive).sv = s.sv := by
  unfold State.offerKeepalive; (repeat' split) <;> simp
@[simp] theorem State.offerKeepalive_sm (s : State) : (s.offerKeepalive).sm = s.sm := by
  unfold State.offerKeepalive; (repeat' split) <;> simp
@[simp] theorem State.offerKeepalive_cl (s : State) : (s.offerKeepalive).cl = s.cl := by
  unfold State.offerKeepalive; (repeat' split) <;> simp
@[simp] theorem State.offerKeepalive_ce (s : State) : (s.offerKeepalive).ce = s.ce := by
  unfold State.offerKeepalive; (repeat' split) <;> simp
@[simp] theorem State.offerKeepalive_su (s : State) : (s.offerKeepalive).su = s.su := by
  unfold State.offerKeepalive; (repeat' split) <;> simp
@[simp] theorem State.offerKeepalive_rq (s : State) : (s.offerKeepalive).rq = s.rq := by
  unfold State.offerKeepalive; (repeat' split) <;> simp
@[simp] theorem State.offerKeepalive_eu (s : State) : (s.offerKeepalive).eu = s.eu := by
  unfold State.offerKeepalive; (repeat' split) <;> simp
@[simp] theorem State.offerKeepalive_readData (s : State) : (s.offerKeepalive).readData = s.readData := by
  unfold State.offerKeepalive; (repeat' split) <;> simp
@[simp] theorem State.offerKeepalive_pending (s : State) : (s.offerKeepalive).pending = s.pending := by
  unfold State.offerKeepalive; (repeat' split) <;> simp

/-! ### settleField -/

@[simp] theorem State.settleField_resetN (s : State) : (s.settleField).resetN = s.resetN := by
  simp only [State.settleField, State.offerTo]; (repeat' split) <;> simp
@[simp] theorem State.settleField_refclk (s : State) : (s.settleField).refclk = s.refclk := by
  simp only [State.settleField, State.offerTo]; (repeat' split) <;> simp
@[simp] theorem State.settleField_fe (s : State) : (s.settleField).fe = s.fe := by
  simp only [State.settleField, State.offerTo]; (repeat' split) <;> simp
@[simp] theorem State.settleField_sv (s : State) : (s.settleField).sv = s.sv := by
  simp only [State.settleField, State.offerTo]; (repeat' split) <;> simp
@[simp] theorem State.settleField_sm (s : State) : (s.settleField).sm = s.sm := by
  simp only [State.settleField, State.offerTo]; (repeat' split) <;> simp
@[simp] theorem State.settleField_su (s : State) : (s.settleField).su = s.su := by
  simp only [State.settleField, State.offerTo]; (repeat' split) <;> simp
@[simp] theorem State.settleField_readData (s : State) : (s.settleField).readData = s.readData := by
  simp only [State.settleField, State.offerTo]; (repeat' split) <;> simp
@[simp] theorem State.settleField_pending (s : State) : (s.settleField).pending = s.pending := by
  simp only [State.settleField, State.offerTo]; (repeat' split) <;> simp

/-- The one event of the arbiter is COMMIT_DONE, at a validation that ends its commit (R99). -/
theorem State.offerCommit_eu (s : State) :
    (s.offerCommit).eu = s.eu ∨ (s.offerCommit).eu = { s.eu with sticky := s.eu.sticky ||| 0x080 } := by
  unfold State.offerCommit State.validatePending
  (repeat' split) <;> first | exact .inl rfl | exact .inr rfl | (left; simp)

/-- What the arbiter leaves of the Event Unit: all of it but COMMIT_DONE (R99). -/
theorem State.settleField_eu (s : State) :
    (s.settleField).eu = s.eu ∨ (s.settleField).eu = { s.eu with sticky := s.eu.sticky ||| 0x080 } := by
  have h : (s.settleField).eu = (s.offerTo State.offerCommit).eu := by
    unfold State.settleField
    simp only [State.offerTo]
    (repeat' split) <;> simp
  rw [h]
  unfold State.offerTo
  split
  · exact .inl rfl
  · exact s.offerCommit_eu

/-! ### nextFrame -/

@[simp] theorem State.nextFrame_resetN (s : State) : (s.nextFrame).resetN = s.resetN := by
  rfl
@[simp] theorem State.nextFrame_refclk (s : State) : (s.nextFrame).refclk = s.refclk := by
  rfl
@[simp] theorem State.nextFrame_nd (s : State) : (s.nextFrame).nd = s.nd := by
  rfl
@[simp] theorem State.nextFrame_sv (s : State) : (s.nextFrame).sv = s.sv := by
  rfl
@[simp] theorem State.nextFrame_sm (s : State) : (s.nextFrame).sm = s.sm := by
  rfl
@[simp] theorem State.nextFrame_cl (s : State) : (s.nextFrame).cl = s.cl := by
  rfl
@[simp] theorem State.nextFrame_ce (s : State) : (s.nextFrame).ce = s.ce := by
  rfl
@[simp] theorem State.nextFrame_rq (s : State) : (s.nextFrame).rq = s.rq := by
  rfl
@[simp] theorem State.nextFrame_eu (s : State) : (s.nextFrame).eu = s.eu := by
  rfl
@[simp] theorem State.nextFrame_readData (s : State) : (s.nextFrame).readData = s.readData := by
  rfl
@[simp] theorem State.nextFrame_pending (s : State) : (s.nextFrame).pending = s.pending := by
  rfl

/-! ### countSync -/

@[simp] theorem State.countSync_resetN (s : State) : (s.countSync).resetN = s.resetN := by
  unfold State.countSync; dsimp only; split <;> simp
@[simp] theorem State.countSync_refclk (s : State) : (s.countSync).refclk = s.refclk := by
  unfold State.countSync; dsimp only; split <;> simp
@[simp] theorem State.countSync_cx (s : State) : (s.countSync).cx = s.cx := by
  unfold State.countSync; dsimp only; split <;> simp
@[simp] theorem State.countSync_nd (s : State) : (s.countSync).nd = s.nd := by
  unfold State.countSync; dsimp only; split <;> simp
@[simp] theorem State.countSync_sv (s : State) : (s.countSync).sv = s.sv := by
  unfold State.countSync; dsimp only; split <;> simp
@[simp] theorem State.countSync_sm (s : State) : (s.countSync).sm = s.sm := by
  unfold State.countSync; dsimp only; split <;> simp
@[simp] theorem State.countSync_cl (s : State) : (s.countSync).cl = s.cl := by
  unfold State.countSync; dsimp only; split <;> simp
@[simp] theorem State.countSync_ce (s : State) : (s.countSync).ce = s.ce := by
  unfold State.countSync; dsimp only; split <;> simp
@[simp] theorem State.countSync_su (s : State) : (s.countSync).su = s.su := by
  unfold State.countSync; dsimp only; split <;> simp
@[simp] theorem State.countSync_rq (s : State) : (s.countSync).rq = s.rq := by
  unfold State.countSync; dsimp only; split <;> simp
@[simp] theorem State.countSync_readData (s : State) : (s.countSync).readData = s.readData := by
  unfold State.countSync; dsimp only; split <;> simp
@[simp] theorem State.countSync_pending (s : State) : (s.countSync).pending = s.pending := by
  unfold State.countSync; dsimp only; split <;> simp

/-! ### completeSwitch -/

@[simp] theorem State.completeSwitch_resetN (s : State) : (s.completeSwitch).resetN = s.resetN := by
  simp [State.completeSwitch]
@[simp] theorem State.completeSwitch_refclk (s : State) : (s.completeSwitch).refclk = s.refclk := by
  simp [State.completeSwitch]
@[simp] theorem State.completeSwitch_fe (s : State) : (s.completeSwitch).fe = s.fe := by
  simp [State.completeSwitch]
@[simp] theorem State.completeSwitch_cx (s : State) : (s.completeSwitch).cx = s.cx := by
  simp [State.completeSwitch]
@[simp] theorem State.completeSwitch_nd (s : State) : (s.completeSwitch).nd = s.nd := by
  simp [State.completeSwitch]
@[simp] theorem State.completeSwitch_sv (s : State) : (s.completeSwitch).sv = s.sv := by
  simp [State.completeSwitch]
@[simp] theorem State.completeSwitch_sm (s : State) : (s.completeSwitch).sm = s.sm := by
  simp [State.completeSwitch]
@[simp] theorem State.completeSwitch_su (s : State) : (s.completeSwitch).su = s.su := by
  simp [State.completeSwitch]
@[simp] theorem State.completeSwitch_rq (s : State) : (s.completeSwitch).rq = s.rq := by
  simp [State.completeSwitch]
@[simp] theorem State.completeSwitch_readData (s : State) : (s.completeSwitch).readData = s.readData := by
  simp [State.completeSwitch]
@[simp] theorem State.completeSwitch_pending (s : State) : (s.completeSwitch).pending = s.pending := by
  simp [State.completeSwitch]

/-! ### formMap -/

@[simp] theorem State.formMap_resetN (s : State) : (s.formMap).resetN = s.resetN := by
  unfold State.formMap; dsimp only; split <;> simp
@[simp] theorem State.formMap_refclk (s : State) : (s.formMap).refclk = s.refclk := by
  unfold State.formMap; dsimp only; split <;> simp
@[simp] theorem State.formMap_fe (s : State) : (s.formMap).fe = s.fe := by
  unfold State.formMap; dsimp only; split <;> simp
@[simp] theorem State.formMap_cx (s : State) : (s.formMap).cx = s.cx := by
  unfold State.formMap; dsimp only; split <;> simp
@[simp] theorem State.formMap_nd (s : State) : (s.formMap).nd = s.nd := by
  unfold State.formMap; dsimp only; split <;> simp
@[simp] theorem State.formMap_sv (s : State) : (s.formMap).sv = s.sv := by
  unfold State.formMap; dsimp only; split <;> simp
@[simp] theorem State.formMap_su (s : State) : (s.formMap).su = s.su := by
  unfold State.formMap; dsimp only; split <;> simp
@[simp] theorem State.formMap_rq (s : State) : (s.formMap).rq = s.rq := by
  unfold State.formMap; dsimp only; split <;> simp
@[simp] theorem State.formMap_readData (s : State) : (s.formMap).readData = s.readData := by
  unfold State.formMap; dsimp only; split <;> simp
@[simp] theorem State.formMap_pending (s : State) : (s.formMap).pending = s.pending := by
  unfold State.formMap; dsimp only; split <;> simp

/-- What a formation leaves of the Event Unit: all of it but COMMIT_DONE, at the switch frame (R104). -/
theorem State.formMap_eu (s : State) :
    (s.formMap).eu = s.eu ∨ (s.formMap).eu = { s.eu with sticky := s.eu.sticky ||| 0x080 } := by
  unfold State.formMap
  dsimp only
  split
  · exact .inr rfl
  · exact .inl rfl

/-- The map after a formation (R80, R82). -/
theorem State.formMap_sm (s : State) : (s.formMap).sm = s.formedSlotMap := by
  unfold State.formMap
  dsimp only
  split <;> rfl

/-! ### workFrame -/

@[simp] theorem State.workFrame_resetN (s : State) : (s.workFrame).resetN = s.resetN := by
  unfold State.workFrame; dsimp only; split <;> simp
@[simp] theorem State.workFrame_refclk (s : State) : (s.workFrame).refclk = s.refclk := by
  unfold State.workFrame; dsimp only; split <;> simp
@[simp] theorem State.workFrame_fe (s : State) : (s.workFrame).fe = s.fe := by
  unfold State.workFrame; dsimp only; split <;> simp
@[simp] theorem State.workFrame_sv (s : State) : (s.workFrame).sv = s.sv := by
  unfold State.workFrame; dsimp only; split <;> simp
@[simp] theorem State.workFrame_readData (s : State) : (s.workFrame).readData = s.readData := by
  unfold State.workFrame; dsimp only; split <;> simp
@[simp] theorem State.workFrame_pending (s : State) : (s.workFrame).pending = s.pending := by
  unfold State.workFrame; dsimp only; split <;> simp

/-! ### startFrame -/

@[simp] theorem State.startFrame_resetN (s : State) : (s.startFrame).resetN = s.resetN := by
  unfold State.startFrame; dsimp only; (repeat' split) <;> simp
@[simp] theorem State.startFrame_refclk (s : State) : (s.startFrame).refclk = s.refclk := by
  unfold State.startFrame; dsimp only; (repeat' split) <;> simp
@[simp] theorem State.startFrame_sv (s : State) : (s.startFrame).sv = s.sv := by
  unfold State.startFrame; dsimp only; (repeat' split) <;> simp
@[simp] theorem State.startFrame_readData (s : State) : (s.startFrame).readData = s.readData := by
  unfold State.startFrame; dsimp only; (repeat' split) <;> simp
@[simp] theorem State.startFrame_pending (s : State) : (s.startFrame).pending = s.pending := by
  unfold State.startFrame; dsimp only; (repeat' split) <;> simp

/-! ### cleanFrame -/

@[simp] theorem State.cleanFrame_resetN (s : State) : (s.cleanFrame).resetN = s.resetN := by
  simp [State.cleanFrame]
@[simp] theorem State.cleanFrame_refclk (s : State) : (s.cleanFrame).refclk = s.refclk := by
  simp [State.cleanFrame]
@[simp] theorem State.cleanFrame_cx (s : State) : (s.cleanFrame).cx = s.cx := by
  simp [State.cleanFrame]
@[simp] theorem State.cleanFrame_nd (s : State) : (s.cleanFrame).nd = s.nd := by
  simp [State.cleanFrame]
@[simp] theorem State.cleanFrame_sv (s : State) : (s.cleanFrame).sv = s.sv := by
  simp [State.cleanFrame]
@[simp] theorem State.cleanFrame_sm (s : State) : (s.cleanFrame).sm = s.sm := by
  simp [State.cleanFrame]
@[simp] theorem State.cleanFrame_cl (s : State) : (s.cleanFrame).cl = s.cl := by
  simp [State.cleanFrame]
@[simp] theorem State.cleanFrame_ce (s : State) : (s.cleanFrame).ce = s.ce := by
  simp [State.cleanFrame]
@[simp] theorem State.cleanFrame_su (s : State) : (s.cleanFrame).su = s.su := by
  simp [State.cleanFrame]
@[simp] theorem State.cleanFrame_rq (s : State) : (s.cleanFrame).rq = s.rq := by
  simp [State.cleanFrame]
@[simp] theorem State.cleanFrame_eu (s : State) : (s.cleanFrame).eu = s.eu := by
  simp [State.cleanFrame]
@[simp] theorem State.cleanFrame_readData (s : State) : (s.cleanFrame).readData = s.readData := by
  simp [State.cleanFrame]
@[simp] theorem State.cleanFrame_pending (s : State) : (s.cleanFrame).pending = s.pending := by
  simp [State.cleanFrame]

/-! ### contention -/

@[simp] theorem State.contention_resetN (s : State) : (s.contention).resetN = s.resetN := by
  unfold State.contention; dsimp only; split <;> simp
@[simp] theorem State.contention_refclk (s : State) : (s.contention).refclk = s.refclk := by
  unfold State.contention; dsimp only; split <;> simp
@[simp] theorem State.contention_cl (s : State) : (s.contention).cl = s.cl := by
  unfold State.contention; dsimp only; split <;> simp
@[simp] theorem State.contention_readData (s : State) : (s.contention).readData = s.readData := by
  unfold State.contention; dsimp only; split <;> simp
@[simp] theorem State.contention_pending (s : State) : (s.contention).pending = s.pending := by
  unfold State.contention; dsimp only; split <;> simp

/-! ### drainStep -/

@[simp] theorem State.drainStep_resetN (s : State) : (s.drainStep).resetN = s.resetN := by
  unfold State.drainStep; (repeat' split) <;> simp
@[simp] theorem State.drainStep_refclk (s : State) : (s.drainStep).refclk = s.refclk := by
  unfold State.drainStep; (repeat' split) <;> simp
@[simp] theorem State.drainStep_cl (s : State) : (s.drainStep).cl = s.cl := by
  unfold State.drainStep; (repeat' split) <;> simp
@[simp] theorem State.drainStep_readData (s : State) : (s.drainStep).readData = s.readData := by
  unfold State.drainStep; (repeat' split) <;> simp
@[simp] theorem State.drainStep_pending (s : State) : (s.drainStep).pending = s.pending := by
  unfold State.drainStep; (repeat' split) <;> simp

/-! ### endFrame -/

@[simp] theorem State.endFrame_resetN (s : State) (p : List Bool) : (s.endFrame p).resetN = s.resetN := by
  unfold State.endFrame; dsimp only; (repeat' split) <;> simp
@[simp] theorem State.endFrame_refclk (s : State) (p : List Bool) : (s.endFrame p).refclk = s.refclk := by
  unfold State.endFrame; dsimp only; (repeat' split) <;> simp
@[simp] theorem State.endFrame_cl (s : State) (p : List Bool) : (s.endFrame p).cl = s.cl := by
  unfold State.endFrame; dsimp only; (repeat' split) <;> simp
@[simp] theorem State.endFrame_readData (s : State) (p : List Bool) : (s.endFrame p).readData = s.readData := by
  unfold State.endFrame; dsimp only; (repeat' split) <;> simp
@[simp] theorem State.endFrame_pending (s : State) (p : List Bool) : (s.endFrame p).pending = s.pending := by
  unfold State.endFrame; dsimp only; (repeat' split) <;> simp

/-! ### stagingAck -/

@[simp] theorem State.stagingAck_resetN (s : State) : (s.stagingAck).resetN = s.resetN := by
  unfold State.stagingAck; split <;> simp
@[simp] theorem State.stagingAck_refclk (s : State) : (s.stagingAck).refclk = s.refclk := by
  unfold State.stagingAck; split <;> simp
@[simp] theorem State.stagingAck_fe (s : State) : (s.stagingAck).fe = s.fe := by
  unfold State.stagingAck; split <;> simp
@[simp] theorem State.stagingAck_cx (s : State) : (s.stagingAck).cx = s.cx := by
  unfold State.stagingAck; split <;> simp
@[simp] theorem State.stagingAck_nd (s : State) : (s.stagingAck).nd = s.nd := by
  unfold State.stagingAck; split <;> simp
@[simp] theorem State.stagingAck_sv (s : State) : (s.stagingAck).sv = s.sv := by
  unfold State.stagingAck; split <;> simp
@[simp] theorem State.stagingAck_sm (s : State) : (s.stagingAck).sm = s.sm := by
  unfold State.stagingAck; split <;> simp
@[simp] theorem State.stagingAck_cl (s : State) : (s.stagingAck).cl = s.cl := by
  unfold State.stagingAck; split <;> simp
@[simp] theorem State.stagingAck_su (s : State) : (s.stagingAck).su = s.su := by
  unfold State.stagingAck; split <;> simp
@[simp] theorem State.stagingAck_rq (s : State) : (s.stagingAck).rq = s.rq := by
  unfold State.stagingAck; split <;> simp
@[simp] theorem State.stagingAck_eu (s : State) : (s.stagingAck).eu = s.eu := by
  unfold State.stagingAck; split <;> simp
@[simp] theorem State.stagingAck_readData (s : State) : (s.stagingAck).readData = s.readData := by
  unfold State.stagingAck; split <;> simp
@[simp] theorem State.stagingAck_pending (s : State) : (s.stagingAck).pending = s.pending := by
  unfold State.stagingAck; split <;> simp

/-! ### stagingFailed -/

@[simp] theorem State.stagingFailed_resetN (s : State) (a : NodeAddr) (o : CmdOutcome) : (s.stagingFailed a o).resetN = s.resetN := by
  simp [State.stagingFailed]
@[simp] theorem State.stagingFailed_refclk (s : State) (a : NodeAddr) (o : CmdOutcome) : (s.stagingFailed a o).refclk = s.refclk := by
  simp [State.stagingFailed]
@[simp] theorem State.stagingFailed_fe (s : State) (a : NodeAddr) (o : CmdOutcome) : (s.stagingFailed a o).fe = s.fe := by
  simp [State.stagingFailed]
@[simp] theorem State.stagingFailed_cx (s : State) (a : NodeAddr) (o : CmdOutcome) : (s.stagingFailed a o).cx = s.cx := by
  simp [State.stagingFailed]
@[simp] theorem State.stagingFailed_nd (s : State) (a : NodeAddr) (o : CmdOutcome) : (s.stagingFailed a o).nd = s.nd := by
  simp [State.stagingFailed]
@[simp] theorem State.stagingFailed_sv (s : State) (a : NodeAddr) (o : CmdOutcome) : (s.stagingFailed a o).sv = s.sv := by
  simp [State.stagingFailed]
@[simp] theorem State.stagingFailed_sm (s : State) (a : NodeAddr) (o : CmdOutcome) : (s.stagingFailed a o).sm = s.sm := by
  simp [State.stagingFailed]
@[simp] theorem State.stagingFailed_cl (s : State) (a : NodeAddr) (o : CmdOutcome) : (s.stagingFailed a o).cl = s.cl := by
  simp [State.stagingFailed]
@[simp] theorem State.stagingFailed_su (s : State) (a : NodeAddr) (o : CmdOutcome) : (s.stagingFailed a o).su = s.su := by
  simp [State.stagingFailed]
@[simp] theorem State.stagingFailed_rq (s : State) (a : NodeAddr) (o : CmdOutcome) : (s.stagingFailed a o).rq = s.rq := by
  simp [State.stagingFailed]
@[simp] theorem State.stagingFailed_eu (s : State) (a : NodeAddr) (o : CmdOutcome) : (s.stagingFailed a o).eu = s.eu := by
  simp [State.stagingFailed]
@[simp] theorem State.stagingFailed_readData (s : State) (a : NodeAddr) (o : CmdOutcome) : (s.stagingFailed a o).readData = s.readData := by
  simp [State.stagingFailed]
@[simp] theorem State.stagingFailed_pending (s : State) (a : NodeAddr) (o : CmdOutcome) : (s.stagingFailed a o).pending = s.pending := by
  simp [State.stagingFailed]

/-! ### commitOutcome -/

@[simp] theorem State.commitOutcome_resetN (s : State) (t : Target) (o : CmdOutcome) : (s.commitOutcome t o).resetN = s.resetN := by
  unfold State.commitOutcome; (repeat' split) <;> simp
@[simp] theorem State.commitOutcome_refclk (s : State) (t : Target) (o : CmdOutcome) : (s.commitOutcome t o).refclk = s.refclk := by
  unfold State.commitOutcome; (repeat' split) <;> simp
@[simp] theorem State.commitOutcome_fe (s : State) (t : Target) (o : CmdOutcome) : (s.commitOutcome t o).fe = s.fe := by
  unfold State.commitOutcome; (repeat' split) <;> simp
@[simp] theorem State.commitOutcome_cx (s : State) (t : Target) (o : CmdOutcome) : (s.commitOutcome t o).cx = s.cx := by
  unfold State.commitOutcome; (repeat' split) <;> simp
@[simp] theorem State.commitOutcome_nd (s : State) (t : Target) (o : CmdOutcome) : (s.commitOutcome t o).nd = s.nd := by
  unfold State.commitOutcome; (repeat' split) <;> simp
@[simp] theorem State.commitOutcome_sv (s : State) (t : Target) (o : CmdOutcome) : (s.commitOutcome t o).sv = s.sv := by
  unfold State.commitOutcome; (repeat' split) <;> simp
@[simp] theorem State.commitOutcome_sm (s : State) (t : Target) (o : CmdOutcome) : (s.commitOutcome t o).sm = s.sm := by
  unfold State.commitOutcome; (repeat' split) <;> simp
@[simp] theorem State.commitOutcome_cl (s : State) (t : Target) (o : CmdOutcome) : (s.commitOutcome t o).cl = s.cl := by
  unfold State.commitOutcome; (repeat' split) <;> simp
@[simp] theorem State.commitOutcome_su (s : State) (t : Target) (o : CmdOutcome) : (s.commitOutcome t o).su = s.su := by
  unfold State.commitOutcome; (repeat' split) <;> simp
@[simp] theorem State.commitOutcome_rq (s : State) (t : Target) (o : CmdOutcome) : (s.commitOutcome t o).rq = s.rq := by
  unfold State.commitOutcome; (repeat' split) <;> simp
@[simp] theorem State.commitOutcome_readData (s : State) (t : Target) (o : CmdOutcome) : (s.commitOutcome t o).readData = s.readData := by
  unfold State.commitOutcome; (repeat' split) <;> simp
@[simp] theorem State.commitOutcome_pending (s : State) (t : Target) (o : CmdOutcome) : (s.commitOutcome t o).pending = s.pending := by
  unfold State.commitOutcome; (repeat' split) <;> simp

/-! ### surveyWouldEnd -/

@[simp] theorem State.surveyWouldEnd_resetN (s : State) (o : SurveyOutcome) : (s.surveyWouldEnd o).resetN = s.resetN := by
  unfold State.surveyWouldEnd; split <;> simp
@[simp] theorem State.surveyWouldEnd_refclk (s : State) (o : SurveyOutcome) : (s.surveyWouldEnd o).refclk = s.refclk := by
  unfold State.surveyWouldEnd; split <;> simp
@[simp] theorem State.surveyWouldEnd_fe (s : State) (o : SurveyOutcome) : (s.surveyWouldEnd o).fe = s.fe := by
  unfold State.surveyWouldEnd; split <;> simp
@[simp] theorem State.surveyWouldEnd_cx (s : State) (o : SurveyOutcome) : (s.surveyWouldEnd o).cx = s.cx := by
  unfold State.surveyWouldEnd; split <;> simp
@[simp] theorem State.surveyWouldEnd_nd (s : State) (o : SurveyOutcome) : (s.surveyWouldEnd o).nd = s.nd := by
  unfold State.surveyWouldEnd; split <;> simp
@[simp] theorem State.surveyWouldEnd_sm (s : State) (o : SurveyOutcome) : (s.surveyWouldEnd o).sm = s.sm := by
  unfold State.surveyWouldEnd; split <;> simp
@[simp] theorem State.surveyWouldEnd_cl (s : State) (o : SurveyOutcome) : (s.surveyWouldEnd o).cl = s.cl := by
  unfold State.surveyWouldEnd; split <;> simp
@[simp] theorem State.surveyWouldEnd_ce (s : State) (o : SurveyOutcome) : (s.surveyWouldEnd o).ce = s.ce := by
  unfold State.surveyWouldEnd; split <;> simp
@[simp] theorem State.surveyWouldEnd_su (s : State) (o : SurveyOutcome) : (s.surveyWouldEnd o).su = s.su := by
  unfold State.surveyWouldEnd; split <;> simp
@[simp] theorem State.surveyWouldEnd_rq (s : State) (o : SurveyOutcome) : (s.surveyWouldEnd o).rq = s.rq := by
  unfold State.surveyWouldEnd; split <;> simp
@[simp] theorem State.surveyWouldEnd_readData (s : State) (o : SurveyOutcome) : (s.surveyWouldEnd o).readData = s.readData := by
  unfold State.surveyWouldEnd; split <;> simp
@[simp] theorem State.surveyWouldEnd_pending (s : State) (o : SurveyOutcome) : (s.surveyWouldEnd o).pending = s.pending := by
  unfold State.surveyWouldEnd; split <;> simp

/-! ### identityRead -/

@[simp] theorem State.identityRead_resetN (s : State) (f : BitVec 32) : (s.identityRead f).resetN = s.resetN := by
  unfold State.identityRead; (repeat' split) <;> simp
@[simp] theorem State.identityRead_refclk (s : State) (f : BitVec 32) : (s.identityRead f).refclk = s.refclk := by
  unfold State.identityRead; (repeat' split) <;> simp
@[simp] theorem State.identityRead_fe (s : State) (f : BitVec 32) : (s.identityRead f).fe = s.fe := by
  unfold State.identityRead; (repeat' split) <;> simp
@[simp] theorem State.identityRead_cx (s : State) (f : BitVec 32) : (s.identityRead f).cx = s.cx := by
  unfold State.identityRead; (repeat' split) <;> simp
@[simp] theorem State.identityRead_nd (s : State) (f : BitVec 32) : (s.identityRead f).nd = s.nd := by
  unfold State.identityRead; (repeat' split) <;> simp
@[simp] theorem State.identityRead_sm (s : State) (f : BitVec 32) : (s.identityRead f).sm = s.sm := by
  unfold State.identityRead; (repeat' split) <;> simp
@[simp] theorem State.identityRead_cl (s : State) (f : BitVec 32) : (s.identityRead f).cl = s.cl := by
  unfold State.identityRead; (repeat' split) <;> simp
@[simp] theorem State.identityRead_ce (s : State) (f : BitVec 32) : (s.identityRead f).ce = s.ce := by
  unfold State.identityRead; (repeat' split) <;> simp
@[simp] theorem State.identityRead_su (s : State) (f : BitVec 32) : (s.identityRead f).su = s.su := by
  unfold State.identityRead; (repeat' split) <;> simp
@[simp] theorem State.identityRead_rq (s : State) (f : BitVec 32) : (s.identityRead f).rq = s.rq := by
  unfold State.identityRead; (repeat' split) <;> simp
@[simp] theorem State.identityRead_readData (s : State) (f : BitVec 32) : (s.identityRead f).readData = s.readData := by
  unfold State.identityRead; (repeat' split) <;> simp
@[simp] theorem State.identityRead_pending (s : State) (f : BitVec 32) : (s.identityRead f).pending = s.pending := by
  unfold State.identityRead; (repeat' split) <;> simp

/-! ### bindEntry -/

@[simp] theorem State.bindEntry_resetN (s : State) : (s.bindEntry).resetN = s.resetN := by
  unfold State.bindEntry; split <;> simp
@[simp] theorem State.bindEntry_refclk (s : State) : (s.bindEntry).refclk = s.refclk := by
  unfold State.bindEntry; split <;> simp
@[simp] theorem State.bindEntry_fe (s : State) : (s.bindEntry).fe = s.fe := by
  unfold State.bindEntry; split <;> simp
@[simp] theorem State.bindEntry_cx (s : State) : (s.bindEntry).cx = s.cx := by
  unfold State.bindEntry; split <;> simp
@[simp] theorem State.bindEntry_sm (s : State) : (s.bindEntry).sm = s.sm := by
  unfold State.bindEntry; split <;> simp
@[simp] theorem State.bindEntry_cl (s : State) : (s.bindEntry).cl = s.cl := by
  unfold State.bindEntry; split <;> simp
@[simp] theorem State.bindEntry_ce (s : State) : (s.bindEntry).ce = s.ce := by
  unfold State.bindEntry; split <;> simp
@[simp] theorem State.bindEntry_su (s : State) : (s.bindEntry).su = s.su := by
  unfold State.bindEntry; split <;> simp
@[simp] theorem State.bindEntry_rq (s : State) : (s.bindEntry).rq = s.rq := by
  unfold State.bindEntry; split <;> simp
@[simp] theorem State.bindEntry_eu (s : State) : (s.bindEntry).eu = s.eu := by
  unfold State.bindEntry; split <;> simp
@[simp] theorem State.bindEntry_readData (s : State) : (s.bindEntry).readData = s.readData := by
  unfold State.bindEntry; split <;> simp
@[simp] theorem State.bindEntry_pending (s : State) : (s.bindEntry).pending = s.pending := by
  unfold State.bindEntry; split <;> simp

/-! ### electionFailure -/

@[simp] theorem State.electionFailure_resetN (s : State) : (s.electionFailure).resetN = s.resetN := by
  unfold State.electionFailure; dsimp only; split <;> simp
@[simp] theorem State.electionFailure_refclk (s : State) : (s.electionFailure).refclk = s.refclk := by
  unfold State.electionFailure; dsimp only; split <;> simp
@[simp] theorem State.electionFailure_fe (s : State) : (s.electionFailure).fe = s.fe := by
  unfold State.electionFailure; dsimp only; split <;> simp
@[simp] theorem State.electionFailure_cx (s : State) : (s.electionFailure).cx = s.cx := by
  unfold State.electionFailure; dsimp only; split <;> simp
@[simp] theorem State.electionFailure_nd (s : State) : (s.electionFailure).nd = s.nd := by
  unfold State.electionFailure; dsimp only; split <;> simp
@[simp] theorem State.electionFailure_sm (s : State) : (s.electionFailure).sm = s.sm := by
  unfold State.electionFailure; dsimp only; split <;> simp
@[simp] theorem State.electionFailure_cl (s : State) : (s.electionFailure).cl = s.cl := by
  unfold State.electionFailure; dsimp only; split <;> simp
@[simp] theorem State.electionFailure_ce (s : State) : (s.electionFailure).ce = s.ce := by
  unfold State.electionFailure; dsimp only; split <;> simp
@[simp] theorem State.electionFailure_su (s : State) : (s.electionFailure).su = s.su := by
  unfold State.electionFailure; dsimp only; split <;> simp
@[simp] theorem State.electionFailure_rq (s : State) : (s.electionFailure).rq = s.rq := by
  unfold State.electionFailure; dsimp only; split <;> simp
@[simp] theorem State.electionFailure_readData (s : State) : (s.electionFailure).readData = s.readData := by
  unfold State.electionFailure; dsimp only; split <;> simp
@[simp] theorem State.electionFailure_pending (s : State) : (s.electionFailure).pending = s.pending := by
  unfold State.electionFailure; dsimp only; split <;> simp

/-! ### holdCapA -/

@[simp] theorem State.holdCapA_resetN (s : State) (d : BitVec 16) : (s.holdCapA d).resetN = s.resetN := by
  simp [State.holdCapA]
@[simp] theorem State.holdCapA_refclk (s : State) (d : BitVec 16) : (s.holdCapA d).refclk = s.refclk := by
  simp [State.holdCapA]
@[simp] theorem State.holdCapA_fe (s : State) (d : BitVec 16) : (s.holdCapA d).fe = s.fe := by
  simp [State.holdCapA]
@[simp] theorem State.holdCapA_cx (s : State) (d : BitVec 16) : (s.holdCapA d).cx = s.cx := by
  simp [State.holdCapA]
@[simp] theorem State.holdCapA_nd (s : State) (d : BitVec 16) : (s.holdCapA d).nd = s.nd := by
  simp [State.holdCapA]
@[simp] theorem State.holdCapA_sm (s : State) (d : BitVec 16) : (s.holdCapA d).sm = s.sm := by
  simp [State.holdCapA]
@[simp] theorem State.holdCapA_cl (s : State) (d : BitVec 16) : (s.holdCapA d).cl = s.cl := by
  simp [State.holdCapA]
@[simp] theorem State.holdCapA_ce (s : State) (d : BitVec 16) : (s.holdCapA d).ce = s.ce := by
  simp [State.holdCapA]
@[simp] theorem State.holdCapA_su (s : State) (d : BitVec 16) : (s.holdCapA d).su = s.su := by
  simp [State.holdCapA]
@[simp] theorem State.holdCapA_rq (s : State) (d : BitVec 16) : (s.holdCapA d).rq = s.rq := by
  simp [State.holdCapA]
@[simp] theorem State.holdCapA_eu (s : State) (d : BitVec 16) : (s.holdCapA d).eu = s.eu := by
  simp [State.holdCapA]
@[simp] theorem State.holdCapA_readData (s : State) (d : BitVec 16) : (s.holdCapA d).readData = s.readData := by
  simp [State.holdCapA]
@[simp] theorem State.holdCapA_pending (s : State) (d : BitVec 16) : (s.holdCapA d).pending = s.pending := by
  simp [State.holdCapA]

/-! ### makeReady -/

@[simp] theorem State.makeReady_resetN (s : State) (a : NodeAddr) (d : BitVec 16) : (s.makeReady a d).resetN = s.resetN := by
  unfold State.makeReady; (repeat' split) <;> simp
@[simp] theorem State.makeReady_refclk (s : State) (a : NodeAddr) (d : BitVec 16) : (s.makeReady a d).refclk = s.refclk := by
  unfold State.makeReady; (repeat' split) <;> simp
@[simp] theorem State.makeReady_fe (s : State) (a : NodeAddr) (d : BitVec 16) : (s.makeReady a d).fe = s.fe := by
  unfold State.makeReady; (repeat' split) <;> simp
@[simp] theorem State.makeReady_cx (s : State) (a : NodeAddr) (d : BitVec 16) : (s.makeReady a d).cx = s.cx := by
  unfold State.makeReady; (repeat' split) <;> simp
@[simp] theorem State.makeReady_sm (s : State) (a : NodeAddr) (d : BitVec 16) : (s.makeReady a d).sm = s.sm := by
  unfold State.makeReady; (repeat' split) <;> simp
@[simp] theorem State.makeReady_cl (s : State) (a : NodeAddr) (d : BitVec 16) : (s.makeReady a d).cl = s.cl := by
  unfold State.makeReady; (repeat' split) <;> simp
@[simp] theorem State.makeReady_ce (s : State) (a : NodeAddr) (d : BitVec 16) : (s.makeReady a d).ce = s.ce := by
  unfold State.makeReady; (repeat' split) <;> simp
@[simp] theorem State.makeReady_su (s : State) (a : NodeAddr) (d : BitVec 16) : (s.makeReady a d).su = s.su := by
  unfold State.makeReady; (repeat' split) <;> simp
@[simp] theorem State.makeReady_rq (s : State) (a : NodeAddr) (d : BitVec 16) : (s.makeReady a d).rq = s.rq := by
  unfold State.makeReady; (repeat' split) <;> simp
@[simp] theorem State.makeReady_readData (s : State) (a : NodeAddr) (d : BitVec 16) : (s.makeReady a d).readData = s.readData := by
  unfold State.makeReady; (repeat' split) <;> simp
@[simp] theorem State.makeReady_pending (s : State) (a : NodeAddr) (d : BitVec 16) : (s.makeReady a d).pending = s.pending := by
  unfold State.makeReady; (repeat' split) <;> simp

/-! ### loseBinding -/

@[simp] theorem State.loseBinding_resetN (s : State) (a : NodeAddr) : (s.loseBinding a).resetN = s.resetN := by
  unfold State.loseBinding; split <;> simp
@[simp] theorem State.loseBinding_refclk (s : State) (a : NodeAddr) : (s.loseBinding a).refclk = s.refclk := by
  unfold State.loseBinding; split <;> simp
@[simp] theorem State.loseBinding_fe (s : State) (a : NodeAddr) : (s.loseBinding a).fe = s.fe := by
  unfold State.loseBinding; split <;> simp
@[simp] theorem State.loseBinding_cx (s : State) (a : NodeAddr) : (s.loseBinding a).cx = s.cx := by
  unfold State.loseBinding; split <;> simp
@[simp] theorem State.loseBinding_sv (s : State) (a : NodeAddr) : (s.loseBinding a).sv = s.sv := by
  unfold State.loseBinding; split <;> simp
@[simp] theorem State.loseBinding_sm (s : State) (a : NodeAddr) : (s.loseBinding a).sm = s.sm := by
  unfold State.loseBinding; split <;> simp
@[simp] theorem State.loseBinding_cl (s : State) (a : NodeAddr) : (s.loseBinding a).cl = s.cl := by
  unfold State.loseBinding; split <;> simp
@[simp] theorem State.loseBinding_ce (s : State) (a : NodeAddr) : (s.loseBinding a).ce = s.ce := by
  unfold State.loseBinding; split <;> simp
@[simp] theorem State.loseBinding_su (s : State) (a : NodeAddr) : (s.loseBinding a).su = s.su := by
  unfold State.loseBinding; split <;> simp
@[simp] theorem State.loseBinding_rq (s : State) (a : NodeAddr) : (s.loseBinding a).rq = s.rq := by
  unfold State.loseBinding; split <;> simp
@[simp] theorem State.loseBinding_readData (s : State) (a : NodeAddr) : (s.loseBinding a).readData = s.readData := by
  unfold State.loseBinding; split <;> simp
@[simp] theorem State.loseBinding_pending (s : State) (a : NodeAddr) : (s.loseBinding a).pending = s.pending := by
  unfold State.loseBinding; split <;> simp

/-! ### bindingFailed -/

@[simp] theorem State.bindingFailed_resetN (s : State) (a : NodeAddr) : (s.bindingFailed a).resetN = s.resetN := by
  simp [State.bindingFailed]
@[simp] theorem State.bindingFailed_refclk (s : State) (a : NodeAddr) : (s.bindingFailed a).refclk = s.refclk := by
  simp [State.bindingFailed]
@[simp] theorem State.bindingFailed_fe (s : State) (a : NodeAddr) : (s.bindingFailed a).fe = s.fe := by
  simp [State.bindingFailed]
@[simp] theorem State.bindingFailed_cx (s : State) (a : NodeAddr) : (s.bindingFailed a).cx = s.cx := by
  simp [State.bindingFailed]
@[simp] theorem State.bindingFailed_sm (s : State) (a : NodeAddr) : (s.bindingFailed a).sm = s.sm := by
  simp [State.bindingFailed]
@[simp] theorem State.bindingFailed_cl (s : State) (a : NodeAddr) : (s.bindingFailed a).cl = s.cl := by
  simp [State.bindingFailed]
@[simp] theorem State.bindingFailed_ce (s : State) (a : NodeAddr) : (s.bindingFailed a).ce = s.ce := by
  simp [State.bindingFailed]
@[simp] theorem State.bindingFailed_su (s : State) (a : NodeAddr) : (s.bindingFailed a).su = s.su := by
  simp [State.bindingFailed]
@[simp] theorem State.bindingFailed_rq (s : State) (a : NodeAddr) : (s.bindingFailed a).rq = s.rq := by
  simp [State.bindingFailed]
@[simp] theorem State.bindingFailed_readData (s : State) (a : NodeAddr) : (s.bindingFailed a).readData = s.readData := by
  simp [State.bindingFailed]
@[simp] theorem State.bindingFailed_pending (s : State) (a : NodeAddr) : (s.bindingFailed a).pending = s.pending := by
  simp [State.bindingFailed]

/-! ### surveyOutcome -/

@[simp] theorem State.surveyOutcome_resetN (s : State) (r : InFlight) (o : CmdOutcome) (d : BitVec 16) : (s.surveyOutcome r o d).resetN = s.resetN := by
  unfold State.surveyOutcome; (repeat' split) <;> simp
@[simp] theorem State.surveyOutcome_refclk (s : State) (r : InFlight) (o : CmdOutcome) (d : BitVec 16) : (s.surveyOutcome r o d).refclk = s.refclk := by
  unfold State.surveyOutcome; (repeat' split) <;> simp
@[simp] theorem State.surveyOutcome_fe (s : State) (r : InFlight) (o : CmdOutcome) (d : BitVec 16) : (s.surveyOutcome r o d).fe = s.fe := by
  unfold State.surveyOutcome; (repeat' split) <;> simp
@[simp] theorem State.surveyOutcome_cx (s : State) (r : InFlight) (o : CmdOutcome) (d : BitVec 16) : (s.surveyOutcome r o d).cx = s.cx := by
  unfold State.surveyOutcome; (repeat' split) <;> simp
@[simp] theorem State.surveyOutcome_sm (s : State) (r : InFlight) (o : CmdOutcome) (d : BitVec 16) : (s.surveyOutcome r o d).sm = s.sm := by
  unfold State.surveyOutcome; (repeat' split) <;> simp
@[simp] theorem State.surveyOutcome_cl (s : State) (r : InFlight) (o : CmdOutcome) (d : BitVec 16) : (s.surveyOutcome r o d).cl = s.cl := by
  unfold State.surveyOutcome; (repeat' split) <;> simp
@[simp] theorem State.surveyOutcome_ce (s : State) (r : InFlight) (o : CmdOutcome) (d : BitVec 16) : (s.surveyOutcome r o d).ce = s.ce := by
  unfold State.surveyOutcome; (repeat' split) <;> simp
@[simp] theorem State.surveyOutcome_su (s : State) (r : InFlight) (o : CmdOutcome) (d : BitVec 16) : (s.surveyOutcome r o d).su = s.su := by
  unfold State.surveyOutcome; (repeat' split) <;> simp
@[simp] theorem State.surveyOutcome_rq (s : State) (r : InFlight) (o : CmdOutcome) (d : BitVec 16) : (s.surveyOutcome r o d).rq = s.rq := by
  unfold State.surveyOutcome; (repeat' split) <;> simp
@[simp] theorem State.surveyOutcome_readData (s : State) (r : InFlight) (o : CmdOutcome) (d : BitVec 16) : (s.surveyOutcome r o d).readData = s.readData := by
  unfold State.surveyOutcome; (repeat' split) <;> simp
@[simp] theorem State.surveyOutcome_pending (s : State) (r : InFlight) (o : CmdOutcome) (d : BitVec 16) : (s.surveyOutcome r o d).pending = s.pending := by
  unfold State.surveyOutcome; (repeat' split) <;> simp

/-! ### moveEntry -/

@[simp] theorem State.moveEntry_resetN (s : State) (q : Request) (o : CmdOutcome) : (s.moveEntry q o).resetN = s.resetN := by
  unfold State.moveEntry; (repeat' split) <;> simp
@[simp] theorem State.moveEntry_refclk (s : State) (q : Request) (o : CmdOutcome) : (s.moveEntry q o).refclk = s.refclk := by
  unfold State.moveEntry; (repeat' split) <;> simp
@[simp] theorem State.moveEntry_fe (s : State) (q : Request) (o : CmdOutcome) : (s.moveEntry q o).fe = s.fe := by
  unfold State.moveEntry; (repeat' split) <;> simp
@[simp] theorem State.moveEntry_cx (s : State) (q : Request) (o : CmdOutcome) : (s.moveEntry q o).cx = s.cx := by
  unfold State.moveEntry; (repeat' split) <;> simp
@[simp] theorem State.moveEntry_sv (s : State) (q : Request) (o : CmdOutcome) : (s.moveEntry q o).sv = s.sv := by
  unfold State.moveEntry; (repeat' split) <;> simp
@[simp] theorem State.moveEntry_sm (s : State) (q : Request) (o : CmdOutcome) : (s.moveEntry q o).sm = s.sm := by
  unfold State.moveEntry; (repeat' split) <;> simp
@[simp] theorem State.moveEntry_cl (s : State) (q : Request) (o : CmdOutcome) : (s.moveEntry q o).cl = s.cl := by
  unfold State.moveEntry; (repeat' split) <;> simp
@[simp] theorem State.moveEntry_ce (s : State) (q : Request) (o : CmdOutcome) : (s.moveEntry q o).ce = s.ce := by
  unfold State.moveEntry; (repeat' split) <;> simp
@[simp] theorem State.moveEntry_su (s : State) (q : Request) (o : CmdOutcome) : (s.moveEntry q o).su = s.su := by
  unfold State.moveEntry; (repeat' split) <;> simp
@[simp] theorem State.moveEntry_rq (s : State) (q : Request) (o : CmdOutcome) : (s.moveEntry q o).rq = s.rq := by
  unfold State.moveEntry; (repeat' split) <;> simp
@[simp] theorem State.moveEntry_eu (s : State) (q : Request) (o : CmdOutcome) : (s.moveEntry q o).eu = s.eu := by
  unfold State.moveEntry; (repeat' split) <;> simp
@[simp] theorem State.moveEntry_readData (s : State) (q : Request) (o : CmdOutcome) : (s.moveEntry q o).readData = s.readData := by
  unfold State.moveEntry; (repeat' split) <;> simp
@[simp] theorem State.moveEntry_pending (s : State) (q : Request) (o : CmdOutcome) : (s.moveEntry q o).pending = s.pending := by
  unfold State.moveEntry; (repeat' split) <;> simp

/-! ### requestOutcome -/

@[simp] theorem State.requestOutcome_resetN (s : State) (o : CmdOutcome) (d : BitVec 16) (n : Nat) : (s.requestOutcome o d n).resetN = s.resetN := by
  unfold State.requestOutcome; split <;> simp
@[simp] theorem State.requestOutcome_refclk (s : State) (o : CmdOutcome) (d : BitVec 16) (n : Nat) : (s.requestOutcome o d n).refclk = s.refclk := by
  unfold State.requestOutcome; split <;> simp
@[simp] theorem State.requestOutcome_fe (s : State) (o : CmdOutcome) (d : BitVec 16) (n : Nat) : (s.requestOutcome o d n).fe = s.fe := by
  unfold State.requestOutcome; split <;> simp
@[simp] theorem State.requestOutcome_cx (s : State) (o : CmdOutcome) (d : BitVec 16) (n : Nat) : (s.requestOutcome o d n).cx = s.cx := by
  unfold State.requestOutcome; split <;> simp
@[simp] theorem State.requestOutcome_sv (s : State) (o : CmdOutcome) (d : BitVec 16) (n : Nat) : (s.requestOutcome o d n).sv = s.sv := by
  unfold State.requestOutcome; split <;> simp
@[simp] theorem State.requestOutcome_sm (s : State) (o : CmdOutcome) (d : BitVec 16) (n : Nat) : (s.requestOutcome o d n).sm = s.sm := by
  unfold State.requestOutcome; split <;> simp
@[simp] theorem State.requestOutcome_cl (s : State) (o : CmdOutcome) (d : BitVec 16) (n : Nat) : (s.requestOutcome o d n).cl = s.cl := by
  unfold State.requestOutcome; split <;> simp
@[simp] theorem State.requestOutcome_ce (s : State) (o : CmdOutcome) (d : BitVec 16) (n : Nat) : (s.requestOutcome o d n).ce = s.ce := by
  unfold State.requestOutcome; split <;> simp
@[simp] theorem State.requestOutcome_su (s : State) (o : CmdOutcome) (d : BitVec 16) (n : Nat) : (s.requestOutcome o d n).su = s.su := by
  unfold State.requestOutcome; split <;> simp
@[simp] theorem State.requestOutcome_eu (s : State) (o : CmdOutcome) (d : BitVec 16) (n : Nat) : (s.requestOutcome o d n).eu = s.eu := by
  unfold State.requestOutcome; split <;> simp
@[simp] theorem State.requestOutcome_readData (s : State) (o : CmdOutcome) (d : BitVec 16) (n : Nat) : (s.requestOutcome o d n).readData = s.readData := by
  unfold State.requestOutcome; split <;> simp
@[simp] theorem State.requestOutcome_pending (s : State) (o : CmdOutcome) (d : BitVec 16) (n : Nat) : (s.requestOutcome o d n).pending = s.pending := by
  unfold State.requestOutcome; split <;> simp

/-! ### handOver -/

@[simp] theorem State.handOver_resetN (s : State) (r : InFlight) (o : CmdOutcome) (d : BitVec 16) : (s.handOver r o d).resetN = s.resetN := by
  unfold State.handOver; dsimp only; split <;> simp
@[simp] theorem State.handOver_refclk (s : State) (r : InFlight) (o : CmdOutcome) (d : BitVec 16) : (s.handOver r o d).refclk = s.refclk := by
  unfold State.handOver; dsimp only; split <;> simp
@[simp] theorem State.handOver_fe (s : State) (r : InFlight) (o : CmdOutcome) (d : BitVec 16) : (s.handOver r o d).fe = s.fe := by
  unfold State.handOver; dsimp only; split <;> simp
@[simp] theorem State.handOver_sm (s : State) (r : InFlight) (o : CmdOutcome) (d : BitVec 16) : (s.handOver r o d).sm = s.sm := by
  unfold State.handOver; dsimp only; split <;> simp
@[simp] theorem State.handOver_cl (s : State) (r : InFlight) (o : CmdOutcome) (d : BitVec 16) : (s.handOver r o d).cl = s.cl := by
  unfold State.handOver; dsimp only; split <;> simp
@[simp] theorem State.handOver_su (s : State) (r : InFlight) (o : CmdOutcome) (d : BitVec 16) : (s.handOver r o d).su = s.su := by
  unfold State.handOver; dsimp only; split <;> simp
@[simp] theorem State.handOver_readData (s : State) (r : InFlight) (o : CmdOutcome) (d : BitVec 16) : (s.handOver r o d).readData = s.readData := by
  unfold State.handOver; dsimp only; split <;> simp
@[simp] theorem State.handOver_pending (s : State) (r : InFlight) (o : CmdOutcome) (d : BitVec 16) : (s.handOver r o d).pending = s.pending := by
  unfold State.handOver; dsimp only; split <;> simp

/-! ### concludeStage -/

@[simp] theorem State.concludeStage_resetN (s : State) (r : InFlight) (o : CmdOutcome) (d : BitVec 16) : (s.concludeStage r o d).resetN = s.resetN := by
  unfold State.concludeStage; split <;> simp
@[simp] theorem State.concludeStage_refclk (s : State) (r : InFlight) (o : CmdOutcome) (d : BitVec 16) : (s.concludeStage r o d).refclk = s.refclk := by
  unfold State.concludeStage; split <;> simp
@[simp] theorem State.concludeStage_fe (s : State) (r : InFlight) (o : CmdOutcome) (d : BitVec 16) : (s.concludeStage r o d).fe = s.fe := by
  unfold State.concludeStage; split <;> simp
@[simp] theorem State.concludeStage_sm (s : State) (r : InFlight) (o : CmdOutcome) (d : BitVec 16) : (s.concludeStage r o d).sm = s.sm := by
  unfold State.concludeStage; split <;> simp
@[simp] theorem State.concludeStage_cl (s : State) (r : InFlight) (o : CmdOutcome) (d : BitVec 16) : (s.concludeStage r o d).cl = s.cl := by
  unfold State.concludeStage; split <;> simp
@[simp] theorem State.concludeStage_su (s : State) (r : InFlight) (o : CmdOutcome) (d : BitVec 16) : (s.concludeStage r o d).su = s.su := by
  unfold State.concludeStage; split <;> simp
@[simp] theorem State.concludeStage_readData (s : State) (r : InFlight) (o : CmdOutcome) (d : BitVec 16) : (s.concludeStage r o d).readData = s.readData := by
  unfold State.concludeStage; split <;> simp
@[simp] theorem State.concludeStage_pending (s : State) (r : InFlight) (o : CmdOutcome) (d : BitVec 16) : (s.concludeStage r o d).pending = s.pending := by
  unfold State.concludeStage; split <;> simp

/-! ### updateTarget -/

@[simp] theorem State.updateTarget_resetN (s : State) (t : Target) (f : Entry → Entry) : (s.updateTarget t f).resetN = s.resetN := by
  unfold State.updateTarget; split <;> simp
@[simp] theorem State.updateTarget_refclk (s : State) (t : Target) (f : Entry → Entry) : (s.updateTarget t f).refclk = s.refclk := by
  unfold State.updateTarget; split <;> simp
@[simp] theorem State.updateTarget_fe (s : State) (t : Target) (f : Entry → Entry) : (s.updateTarget t f).fe = s.fe := by
  unfold State.updateTarget; split <;> simp
@[simp] theorem State.updateTarget_cx (s : State) (t : Target) (f : Entry → Entry) : (s.updateTarget t f).cx = s.cx := by
  unfold State.updateTarget; split <;> simp
@[simp] theorem State.updateTarget_sv (s : State) (t : Target) (f : Entry → Entry) : (s.updateTarget t f).sv = s.sv := by
  unfold State.updateTarget; split <;> simp
@[simp] theorem State.updateTarget_sm (s : State) (t : Target) (f : Entry → Entry) : (s.updateTarget t f).sm = s.sm := by
  unfold State.updateTarget; split <;> simp
@[simp] theorem State.updateTarget_cl (s : State) (t : Target) (f : Entry → Entry) : (s.updateTarget t f).cl = s.cl := by
  unfold State.updateTarget; split <;> simp
@[simp] theorem State.updateTarget_ce (s : State) (t : Target) (f : Entry → Entry) : (s.updateTarget t f).ce = s.ce := by
  unfold State.updateTarget; split <;> simp
@[simp] theorem State.updateTarget_su (s : State) (t : Target) (f : Entry → Entry) : (s.updateTarget t f).su = s.su := by
  unfold State.updateTarget; split <;> simp
@[simp] theorem State.updateTarget_rq (s : State) (t : Target) (f : Entry → Entry) : (s.updateTarget t f).rq = s.rq := by
  unfold State.updateTarget; split <;> simp
@[simp] theorem State.updateTarget_eu (s : State) (t : Target) (f : Entry → Entry) : (s.updateTarget t f).eu = s.eu := by
  unfold State.updateTarget; split <;> simp
@[simp] theorem State.updateTarget_readData (s : State) (t : Target) (f : Entry → Entry) : (s.updateTarget t f).readData = s.readData := by
  unfold State.updateTarget; split <;> simp
@[simp] theorem State.updateTarget_pending (s : State) (t : Target) (f : Entry → Entry) : (s.updateTarget t f).pending = s.pending := by
  unfold State.updateTarget; split <;> simp

/-! ### markResync -/

@[simp] theorem State.markResync_resetN (s : State) (t : Target) : (s.markResync t).resetN = s.resetN := by
  simp [State.markResync]
@[simp] theorem State.markResync_refclk (s : State) (t : Target) : (s.markResync t).refclk = s.refclk := by
  simp [State.markResync]
@[simp] theorem State.markResync_fe (s : State) (t : Target) : (s.markResync t).fe = s.fe := by
  simp [State.markResync]
@[simp] theorem State.markResync_cx (s : State) (t : Target) : (s.markResync t).cx = s.cx := by
  simp [State.markResync]
@[simp] theorem State.markResync_sv (s : State) (t : Target) : (s.markResync t).sv = s.sv := by
  simp [State.markResync]
@[simp] theorem State.markResync_sm (s : State) (t : Target) : (s.markResync t).sm = s.sm := by
  simp [State.markResync]
@[simp] theorem State.markResync_cl (s : State) (t : Target) : (s.markResync t).cl = s.cl := by
  simp [State.markResync]
@[simp] theorem State.markResync_ce (s : State) (t : Target) : (s.markResync t).ce = s.ce := by
  simp [State.markResync]
@[simp] theorem State.markResync_su (s : State) (t : Target) : (s.markResync t).su = s.su := by
  simp [State.markResync]
@[simp] theorem State.markResync_rq (s : State) (t : Target) : (s.markResync t).rq = s.rq := by
  simp [State.markResync]
@[simp] theorem State.markResync_eu (s : State) (t : Target) : (s.markResync t).eu = s.eu := by
  simp [State.markResync]
@[simp] theorem State.markResync_readData (s : State) (t : Target) : (s.markResync t).readData = s.readData := by
  simp [State.markResync]
@[simp] theorem State.markResync_pending (s : State) (t : Target) : (s.markResync t).pending = s.pending := by
  simp [State.markResync]

/-! ### loseTarget -/

@[simp] theorem State.loseTarget_resetN (s : State) (t : Target) : (s.loseTarget t).resetN = s.resetN := by
  unfold State.loseTarget; (repeat' split) <;> simp
@[simp] theorem State.loseTarget_refclk (s : State) (t : Target) : (s.loseTarget t).refclk = s.refclk := by
  unfold State.loseTarget; (repeat' split) <;> simp
@[simp] theorem State.loseTarget_fe (s : State) (t : Target) : (s.loseTarget t).fe = s.fe := by
  unfold State.loseTarget; (repeat' split) <;> simp
@[simp] theorem State.loseTarget_cx (s : State) (t : Target) : (s.loseTarget t).cx = s.cx := by
  unfold State.loseTarget; (repeat' split) <;> simp
@[simp] theorem State.loseTarget_sv (s : State) (t : Target) : (s.loseTarget t).sv = s.sv := by
  unfold State.loseTarget; (repeat' split) <;> simp
@[simp] theorem State.loseTarget_sm (s : State) (t : Target) : (s.loseTarget t).sm = s.sm := by
  unfold State.loseTarget; (repeat' split) <;> simp
@[simp] theorem State.loseTarget_cl (s : State) (t : Target) : (s.loseTarget t).cl = s.cl := by
  unfold State.loseTarget; (repeat' split) <;> simp
@[simp] theorem State.loseTarget_ce (s : State) (t : Target) : (s.loseTarget t).ce = s.ce := by
  unfold State.loseTarget; (repeat' split) <;> simp
@[simp] theorem State.loseTarget_su (s : State) (t : Target) : (s.loseTarget t).su = s.su := by
  unfold State.loseTarget; (repeat' split) <;> simp
@[simp] theorem State.loseTarget_rq (s : State) (t : Target) : (s.loseTarget t).rq = s.rq := by
  unfold State.loseTarget; (repeat' split) <;> simp
@[simp] theorem State.loseTarget_readData (s : State) (t : Target) : (s.loseTarget t).readData = s.readData := by
  unfold State.loseTarget; (repeat' split) <;> simp
@[simp] theorem State.loseTarget_pending (s : State) (t : Target) : (s.loseTarget t).pending = s.pending := by
  unfold State.loseTarget; (repeat' split) <;> simp

/-! ### noteResponse -/

@[simp] theorem State.noteResponse_resetN (s : State) (r : InFlight) (j : Judgement) : (s.noteResponse r j).resetN = s.resetN := by
  unfold State.noteResponse; dsimp only; split <;> simp
@[simp] theorem State.noteResponse_refclk (s : State) (r : InFlight) (j : Judgement) : (s.noteResponse r j).refclk = s.refclk := by
  unfold State.noteResponse; dsimp only; split <;> simp
@[simp] theorem State.noteResponse_fe (s : State) (r : InFlight) (j : Judgement) : (s.noteResponse r j).fe = s.fe := by
  unfold State.noteResponse; dsimp only; split <;> simp
@[simp] theorem State.noteResponse_sv (s : State) (r : InFlight) (j : Judgement) : (s.noteResponse r j).sv = s.sv := by
  unfold State.noteResponse; dsimp only; split <;> simp
@[simp] theorem State.noteResponse_sm (s : State) (r : InFlight) (j : Judgement) : (s.noteResponse r j).sm = s.sm := by
  unfold State.noteResponse; dsimp only; split <;> simp
@[simp] theorem State.noteResponse_cl (s : State) (r : InFlight) (j : Judgement) : (s.noteResponse r j).cl = s.cl := by
  unfold State.noteResponse; dsimp only; split <;> simp
@[simp] theorem State.noteResponse_ce (s : State) (r : InFlight) (j : Judgement) : (s.noteResponse r j).ce = s.ce := by
  unfold State.noteResponse; dsimp only; split <;> simp
@[simp] theorem State.noteResponse_su (s : State) (r : InFlight) (j : Judgement) : (s.noteResponse r j).su = s.su := by
  unfold State.noteResponse; dsimp only; split <;> simp
@[simp] theorem State.noteResponse_rq (s : State) (r : InFlight) (j : Judgement) : (s.noteResponse r j).rq = s.rq := by
  unfold State.noteResponse; dsimp only; split <;> simp
@[simp] theorem State.noteResponse_eu (s : State) (r : InFlight) (j : Judgement) : (s.noteResponse r j).eu = s.eu := by
  unfold State.noteResponse; dsimp only; split <;> simp
@[simp] theorem State.noteResponse_readData (s : State) (r : InFlight) (j : Judgement) : (s.noteResponse r j).readData = s.readData := by
  unfold State.noteResponse; dsimp only; split <;> simp
@[simp] theorem State.noteResponse_pending (s : State) (r : InFlight) (j : Judgement) : (s.noteResponse r j).pending = s.pending := by
  unfold State.noteResponse; dsimp only; split <;> simp

/-! ### applyResult -/

@[simp] theorem State.applyResult_resetN (s : State) (r : InFlight) (a : AttemptResult) : (s.applyResult r a).resetN = s.resetN := by
  unfold State.applyResult; split <;> simp
@[simp] theorem State.applyResult_refclk (s : State) (r : InFlight) (a : AttemptResult) : (s.applyResult r a).refclk = s.refclk := by
  unfold State.applyResult; split <;> simp
@[simp] theorem State.applyResult_fe (s : State) (r : InFlight) (a : AttemptResult) : (s.applyResult r a).fe = s.fe := by
  unfold State.applyResult; split <;> simp
@[simp] theorem State.applyResult_sm (s : State) (r : InFlight) (a : AttemptResult) : (s.applyResult r a).sm = s.sm := by
  unfold State.applyResult; split <;> simp
@[simp] theorem State.applyResult_cl (s : State) (r : InFlight) (a : AttemptResult) : (s.applyResult r a).cl = s.cl := by
  unfold State.applyResult; split <;> simp
@[simp] theorem State.applyResult_su (s : State) (r : InFlight) (a : AttemptResult) : (s.applyResult r a).su = s.su := by
  unfold State.applyResult; split <;> simp
@[simp] theorem State.applyResult_readData (s : State) (r : InFlight) (a : AttemptResult) : (s.applyResult r a).readData = s.readData := by
  unfold State.applyResult; split <;> simp
@[simp] theorem State.applyResult_pending (s : State) (r : InFlight) (a : AttemptResult) : (s.applyResult r a).pending = s.pending := by
  unfold State.applyResult; split <;> simp

/-! ### unsolicited -/

@[simp] theorem State.unsolicited_resetN (s : State) (f : BitVec 32) : (s.unsolicited f).resetN = s.resetN := by
  unfold State.unsolicited; split <;> simp
@[simp] theorem State.unsolicited_refclk (s : State) (f : BitVec 32) : (s.unsolicited f).refclk = s.refclk := by
  unfold State.unsolicited; split <;> simp
@[simp] theorem State.unsolicited_fe (s : State) (f : BitVec 32) : (s.unsolicited f).fe = s.fe := by
  unfold State.unsolicited; split <;> simp
@[simp] theorem State.unsolicited_nd (s : State) (f : BitVec 32) : (s.unsolicited f).nd = s.nd := by
  unfold State.unsolicited; split <;> simp
@[simp] theorem State.unsolicited_sv (s : State) (f : BitVec 32) : (s.unsolicited f).sv = s.sv := by
  unfold State.unsolicited; split <;> simp
@[simp] theorem State.unsolicited_sm (s : State) (f : BitVec 32) : (s.unsolicited f).sm = s.sm := by
  unfold State.unsolicited; split <;> simp
@[simp] theorem State.unsolicited_cl (s : State) (f : BitVec 32) : (s.unsolicited f).cl = s.cl := by
  unfold State.unsolicited; split <;> simp
@[simp] theorem State.unsolicited_ce (s : State) (f : BitVec 32) : (s.unsolicited f).ce = s.ce := by
  unfold State.unsolicited; split <;> simp
@[simp] theorem State.unsolicited_su (s : State) (f : BitVec 32) : (s.unsolicited f).su = s.su := by
  unfold State.unsolicited; split <;> simp
@[simp] theorem State.unsolicited_rq (s : State) (f : BitVec 32) : (s.unsolicited f).rq = s.rq := by
  unfold State.unsolicited; split <;> simp
@[simp] theorem State.unsolicited_eu (s : State) (f : BitVec 32) : (s.unsolicited f).eu = s.eu := by
  unfold State.unsolicited; split <;> simp
@[simp] theorem State.unsolicited_readData (s : State) (f : BitVec 32) : (s.unsolicited f).readData = s.readData := by
  unfold State.unsolicited; split <;> simp
@[simp] theorem State.unsolicited_pending (s : State) (f : BitVec 32) : (s.unsolicited f).pending = s.pending := by
  unfold State.unsolicited; split <;> simp

/-! ### applyResponse -/

@[simp] theorem State.applyResponse_resetN (s : State) (f : BitVec 32) : (s.applyResponse f).resetN = s.resetN := by
  unfold State.applyResponse; (repeat' split) <;> simp
@[simp] theorem State.applyResponse_refclk (s : State) (f : BitVec 32) : (s.applyResponse f).refclk = s.refclk := by
  unfold State.applyResponse; (repeat' split) <;> simp
@[simp] theorem State.applyResponse_fe (s : State) (f : BitVec 32) : (s.applyResponse f).fe = s.fe := by
  unfold State.applyResponse; (repeat' split) <;> simp
@[simp] theorem State.applyResponse_sm (s : State) (f : BitVec 32) : (s.applyResponse f).sm = s.sm := by
  unfold State.applyResponse; (repeat' split) <;> simp
@[simp] theorem State.applyResponse_cl (s : State) (f : BitVec 32) : (s.applyResponse f).cl = s.cl := by
  unfold State.applyResponse; (repeat' split) <;> simp
@[simp] theorem State.applyResponse_su (s : State) (f : BitVec 32) : (s.applyResponse f).su = s.su := by
  unfold State.applyResponse; (repeat' split) <;> simp
@[simp] theorem State.applyResponse_readData (s : State) (f : BitVec 32) : (s.applyResponse f).readData = s.readData := by
  unfold State.applyResponse; (repeat' split) <;> simp
@[simp] theorem State.applyResponse_pending (s : State) (f : BitVec 32) : (s.applyResponse f).pending = s.pending := by
  unfold State.applyResponse; (repeat' split) <;> simp

/-! ### respond -/

@[simp] theorem State.respond_resetN (s : State) (f : BitVec 32) : (s.respond f).resetN = s.resetN := by
  simp [State.respond]
@[simp] theorem State.respond_refclk (s : State) (f : BitVec 32) : (s.respond f).refclk = s.refclk := by
  simp [State.respond]
@[simp] theorem State.respond_sm (s : State) (f : BitVec 32) : (s.respond f).sm = s.sm := by
  simp [State.respond]
@[simp] theorem State.respond_cl (s : State) (f : BitVec 32) : (s.respond f).cl = s.cl := by
  simp [State.respond]
@[simp] theorem State.respond_su (s : State) (f : BitVec 32) : (s.respond f).su = s.su := by
  simp [State.respond]
@[simp] theorem State.respond_readData (s : State) (f : BitVec 32) : (s.respond f).readData = s.readData := by
  simp [State.respond]
@[simp] theorem State.respond_pending (s : State) (f : BitVec 32) : (s.respond f).pending = s.pending := by
  simp [State.respond]

end Sys2Proof.Machine
end

