-- ==== Sys2Proof/Laws/Tables.lean ====
section
/-! SUPPORT. Reading a table after a change: `upd`, `mapTable`. -/
namespace Sys2Proof.Machine

/-- What a place holds after one place is set. -/
theorem upd_get {α : Type} {n : Nat} (v : Vector α n) (i j : Fin n) (x : α) :
    (upd v i x)[j] = if i = j then x else v[j] := by
  unfold upd
  simp [Vector.getElem_set, Fin.ext_iff]

theorem upd_self {α : Type} {n : Nat} (v : Vector α n) (i : Fin n) (x : α) : (upd v i x)[i] = x := by
  rw [upd_get, if_pos rfl]

theorem upd_ne {α : Type} {n : Nat} (v : Vector α n) {i j : Fin n} (h : i ≠ j) (x : α) :
    (upd v i x)[j] = v[j] := by
  rw [upd_get, if_neg h]

/-- `upd_get` in the form that simp gives an index. -/
@[simp] theorem upd_getElem {α : Type} {n : Nat} (v : Vector α n) (i j : Fin n) (x : α) :
    (upd v i x)[j.val] = if i = j then x else v[j.val] := upd_get v i j x

theorem mapTable_get {α β : Type} {n : Nat} (f : α → β) (v : Vector α n) (i : Fin n) :
    (mapTable f v)[i] = f v[i] := by
  simp [mapTable]

/-- `mapTable_get` in the form that simp gives an index. -/
@[simp] theorem mapTable_getElem {α β : Type} {n : Nat} (f : α → β) (v : Vector α n) (i : Fin n) :
    (mapTable f v)[i.val] = f v[i.val] := mapTable_get f v i

/-- Two tables that agree at every place are equal. -/
theorem table_ext {α : Type} {n : Nat} {v w : Vector α n} (h : ∀ i : Fin n, v[i] = w[i]) : v = w := by
  apply Vector.ext
  intro i hi
  exact h ⟨i, hi⟩

/-- Every slot number is listed. -/
theorem mem_slotNumbers (k : Fin 32) : k ∈ slotNumbers := by simp [slotNumbers]

/-- Every address is listed. -/
theorem mem_addresses (a : NodeAddr) : a ∈ addresses := by simp [addresses]

/-- Every stream number is listed. -/
theorem mem_streamNumbers (n : Fin 8) : n ∈ streamNumbers := by simp [streamNumbers]

end Sys2Proof.Machine
end

