-- ==== Sys2Proof/Laws/Streams.lean ====
section
/-! SUPPORT. What a frame start and a frame end do to each stream: every stream makes its own move, whatever the others
do, and no event or gap record is lost on the way. -/
namespace Sys2Proof.Machine

/-! ### Gap records handed over -/

/-- A record handed over stands in the gap list, or GAP_OVERFLOW is raised (R158). -/
theorem State.recordGap_kept (s : State) (g : GapRecord) :
    g ∈ (s.recordGap g).eu.gaps ∨ (s.recordGap g).eu.sticky.getLsbD 10 = true := by
  unfold State.recordGap
  split
  · left
    simp
  · right
    simp [State.raise, StickyEvent.bit]

/-- Recording a gap record loses no other record and no event. -/
theorem State.recordGap_mono (s : State) (g : GapRecord) :
    (∀ x, x ∈ s.eu.gaps → x ∈ (s.recordGap g).eu.gaps) ∧
    (∀ i, s.eu.sticky.getLsbD i = true → (s.recordGap g).eu.sticky.getLsbD i = true) ∧
    (s.recordGap g).eu.xrun = s.eu.xrun := by
  unfold State.recordGap
  split
  · exact ⟨fun x hx => by simp [hx], fun i hi => hi, rfl⟩
  · exact ⟨fun x hx => hx, fun i hi => by simp [State.raise, hi], rfl⟩

/-- What no later record or event takes away: the records, the sticky events and the XRUN events. -/
structure NotesKept (a b : EventUnit) : Prop where
  gaps : ∀ x, x ∈ a.gaps → x ∈ b.gaps
  sticky : ∀ i, a.sticky.getLsbD i = true → b.sticky.getLsbD i = true
  xrun : ∀ i, a.xrun.getLsbD i = true → b.xrun.getLsbD i = true

theorem NotesKept.refl (a : EventUnit) : NotesKept a a := ⟨fun _ h => h, fun _ h => h, fun _ h => h⟩

theorem NotesKept.trans {s t u : EventUnit} (a : NotesKept s t) (b : NotesKept t u) : NotesKept s u :=
  ⟨fun x h => b.gaps x (a.gaps x h), fun i h => b.sticky i (a.sticky i h), fun i h => b.xrun i (a.xrun i h)⟩

theorem recordGaps_notesKept (l : List GapRecord) (s : State) : NotesKept s.eu (l.foldl State.recordGap s).eu := by
  induction l generalizing s with
  | nil => exact .refl s.eu
  | cons g l ih =>
    have h := s.recordGap_mono g
    exact NotesKept.trans ⟨h.1, h.2.1, fun i hi => by rw [h.2.2]; exact hi⟩ (ih _)

theorem State.recordGaps_kept (l : List GapRecord) (s : State) (g : GapRecord) (h : g ∈ l) :
    g ∈ (l.foldl State.recordGap s).eu.gaps ∨ (l.foldl State.recordGap s).eu.sticky.getLsbD 10 = true := by
  induction l generalizing s with
  | nil => cases h
  | cons x l ih =>
    cases h with
    | head =>
      have k := recordGaps_notesKept l (s.recordGap g)
      rcases s.recordGap_kept g with h | h
      · exact .inl (k.gaps g h)
      · exact .inr (k.sticky 10 h)
    | tail _ h => exact ih _ h

theorem State.recordGaps_su (l : List GapRecord) (s : State) : (l.foldl State.recordGap s).su = s.su := by
  induction l generalizing s with
  | nil => rfl
  | cons g l ih => rw [List.foldl_cons, ih, State.recordGap_su]

/-! ### One stream's move -/

theorem State.applyMove_streams (s : State) (n : Fin 8) (mv : StreamMove) :
    (s.applyMove n mv).su.streams = upd s.su.streams n mv.stream := by
  unfold State.applyMove
  simp only [State.setSu_su, State.recordGaps_su]
  split <;> rfl

theorem State.applyMove_notesKept (s : State) (n : Fin 8) (mv : StreamMove) : NotesKept s.eu (s.applyMove n mv).eu := by
  unfold State.applyMove
  refine NotesKept.trans ?_ (recordGaps_notesKept mv.gaps _)
  split
  · exact ⟨fun x h => h, fun i h => h, fun i h => by simp [State.raiseXrun, h]⟩
  · exact .refl s.eu

theorem State.applyMove_xrun (s : State) (n : Fin 8) (mv : StreamMove) (h : mv.xrun = true) :
    (s.applyMove n mv).eu.xrun.getLsbD n.val = true := by
  unfold State.applyMove
  refine (recordGaps_notesKept mv.gaps _).xrun n.val ?_
  rw [if_pos h]
  simp [State.raiseXrun]

theorem State.applyMove_gap (s : State) (n : Fin 8) (mv : StreamMove) (g : GapRecord) (h : g ∈ mv.gaps) :
    g ∈ (s.applyMove n mv).eu.gaps ∨ (s.applyMove n mv).eu.sticky.getLsbD 10 = true :=
  State.recordGaps_kept mv.gaps _ g h

/-! ### Every stream's move -/

/-- The moves `M` made by the streams of a list, in its order. -/
def State.makeMoves (M : Fin 8 → Stream → StreamMove) (l : List (Fin 8)) (s : State) : State :=
  l.foldl (fun t n => t.applyMove n (M n (t.stream n))) s

/-- What the moves leave: each listed stream as its own move leaves it, the others as they were, with the events and
records of every move. -/
theorem State.makeMoves_spec (M : Fin 8 → Stream → StreamMove) (l : List (Fin 8)) (hl : l.Nodup) (s : State) :
    (∀ n, n ∉ l → (s.makeMoves M l).su.streams[n] = s.su.streams[n]) ∧
    (∀ n, n ∈ l → (s.makeMoves M l).su.streams[n] = (M n s.su.streams[n]).stream) ∧
    (∀ n, n ∈ l → (M n s.su.streams[n]).xrun = true → (s.makeMoves M l).eu.xrun.getLsbD n.val = true) ∧
    (∀ n g, n ∈ l → g ∈ (M n s.su.streams[n]).gaps →
      g ∈ (s.makeMoves M l).eu.gaps ∨ (s.makeMoves M l).eu.sticky.getLsbD 10 = true) ∧
    NotesKept s.eu (s.makeMoves M l).eu := by
  induction l generalizing s with
  | nil => exact ⟨fun _ _ => rfl, nofun, nofun, nofun, .refl s.eu⟩
  | cons k l ih =>
    obtain ⟨hk, hl⟩ := List.nodup_cons.1 hl
    have e : s.makeMoves M (k :: l) = (s.applyMove k (M k (s.stream k))).makeMoves M l := rfl
    obtain ⟨a, b, c, d, f⟩ := ih hl (s.applyMove k (M k (s.stream k)))
    have same : ∀ n, n ≠ k → (s.applyMove k (M k (s.stream k))).su.streams[n] = s.su.streams[n] := by
      intro n hn
      rw [State.applyMove_streams]
      exact upd_ne _ hn.symm _
    have own : (s.applyMove k (M k (s.stream k))).su.streams[k] = (M k s.su.streams[k]).stream := by
      rw [State.applyMove_streams]
      exact upd_self _ _ _
    have ne : ∀ n, n ∈ l → n ≠ k := by
      intro n hn h
      exact hk (h ▸ hn)
    rw [e]
    refine ⟨?_, ?_, ?_, ?_, (s.applyMove_notesKept k _).trans f⟩
    · intro n hn
      rw [a n fun h => hn (List.mem_cons_of_mem k h)]
      exact same n fun h => hn (h ▸ List.mem_cons_self)
    · intro n hn
      rcases List.mem_cons.1 hn with rfl | h
      · rw [a n hk, own]
      · rw [b n h, same n (ne n h)]
    · intro n hn hx
      rcases List.mem_cons.1 hn with rfl | h
      · exact f.xrun n.val (State.applyMove_xrun _ _ _ hx)
      · exact c n h (by rw [same n (ne n h)]; exact hx)
    · intro n g hn hg
      rcases List.mem_cons.1 hn with rfl | h
      · rcases State.applyMove_gap s n _ g hg with h | h
        · exact .inl (f.gaps g h)
        · exact .inr (f.sticky 10 h)
      · exact d n g h (by rw [same n (ne n h)]; exact hg)

theorem nodup_streamNumbers : streamNumbers.Nodup := List.nodup_finRange 8

/-- The moves of a frame start, with the frame number, the map and the directory of its beginning. -/
theorem State.startStreams_eq (s : State) :
    s.startStreams = s.makeMoves (frameStartMove s.fe.frameNo s.sm.active s.nd) streamNumbers := by
  have h : ∀ (l : List (Fin 8)) (t : State), t.fe = s.fe → t.sm = s.sm → t.nd = s.nd →
      l.foldl (fun t n => t.applyMove n (frameStartMove t.fe.frameNo t.sm.active t.nd n (t.stream n))) t =
        t.makeMoves (frameStartMove s.fe.frameNo s.sm.active s.nd) l := by
    intro l
    induction l with
    | nil => intro t _ _ _; rfl
    | cons n l ih =>
      intro t h1 h2 h3
      rw [List.foldl_cons, ih _ (by simp [h1]) (by simp [h2]) (by simp [h3]), h1, h2, h3]
      rfl
  exact h streamNumbers s rfl rfl rfl

/-- The moves of a frame end, with the frame number and the map of its beginning. -/
theorem State.endStreams_eq (s : State) (p : List Bool) :
    s.endStreams p = s.makeMoves (frameEndMove s.fe.frameNo s.sm.active p) streamNumbers := by
  have h : ∀ (l : List (Fin 8)) (t : State), t.fe = s.fe → t.sm = s.sm →
      l.foldl (fun t n => t.applyMove n (frameEndMove t.fe.frameNo t.sm.active p n (t.stream n))) t =
        t.makeMoves (frameEndMove s.fe.frameNo s.sm.active p) l := by
    intro l
    induction l with
    | nil => intro t _ _; rfl
    | cons n l ih =>
      intro t h1 h2
      rw [List.foldl_cons, ih _ (by simp [h1]) (by simp [h2]), h1, h2]
      rfl
  exact h streamNumbers s rfl rfl

/-- Each stream after the moves of a frame start (R120, R123, R124). -/
theorem State.startStreams_stream (s : State) (n : Fin 8) :
    s.startStreams.su.streams[n] = (frameStartMove s.fe.frameNo s.sm.active s.nd n s.su.streams[n]).stream := by
  rw [State.startStreams_eq]
  exact (State.makeMoves_spec _ _ nodup_streamNumbers s).2.1 n (mem_streamNumbers n)

/-- Each stream after the moves of a frame end (R121, R122). -/
theorem State.endStreams_stream (s : State) (p : List Bool) (n : Fin 8) :
    (s.endStreams p).su.streams[n] = (frameEndMove s.fe.frameNo s.sm.active p n s.su.streams[n]).stream := by
  rw [State.endStreams_eq]
  exact (State.makeMoves_spec _ _ nodup_streamNumbers s).2.1 n (mem_streamNumbers n)

/-- An underrun raises XRUN[n] (R124). -/
theorem State.startStreams_xrun (s : State) (n : Fin 8)
    (h : (frameStartMove s.fe.frameNo s.sm.active s.nd n s.su.streams[n]).xrun = true) :
    s.startStreams.eu.xrun.getLsbD n.val = true := by
  rw [State.startStreams_eq]
  exact (State.makeMoves_spec _ _ nodup_streamNumbers s).2.2.1 n (mem_streamNumbers n) h

/-- An overrun raises XRUN[n] (R122). -/
theorem State.endStreams_xrun (s : State) (p : List Bool) (n : Fin 8)
    (h : (frameEndMove s.fe.frameNo s.sm.active p n s.su.streams[n]).xrun = true) :
    (s.endStreams p).eu.xrun.getLsbD n.val = true := by
  rw [State.endStreams_eq]
  exact (State.makeMoves_spec _ _ nodup_streamNumbers s).2.2.1 n (mem_streamNumbers n) h

/-- A record made at a frame start stands in the gap list, or GAP_OVERFLOW is raised (R128, R158). -/
theorem State.startStreams_gap (s : State) (n : Fin 8) (g : GapRecord)
    (h : g ∈ (frameStartMove s.fe.frameNo s.sm.active s.nd n s.su.streams[n]).gaps) :
    g ∈ s.startStreams.eu.gaps ∨ s.startStreams.eu.sticky.getLsbD 10 = true := by
  rw [State.startStreams_eq]
  exact (State.makeMoves_spec _ _ nodup_streamNumbers s).2.2.2.1 n g (mem_streamNumbers n) h

/-- The moves of a frame start lose no earlier record or event. -/
theorem State.startStreams_notesKept (s : State) : NotesKept s.eu s.startStreams.eu := by
  rw [State.startStreams_eq]
  exact (State.makeMoves_spec _ _ nodup_streamNumbers s).2.2.2.2

/-! ### The records and the playback slots, in order -/

/-- Records handed over in order: those that find room stand at the tail of the gap list, and GAP_OVERFLOW is raised where
one does not (R158). -/
theorem recordGaps_exact (l : List GapRecord) (s : State) :
    (l.foldl State.recordGap s).eu.gaps = s.eu.gaps ++ l.take (16 - s.eu.gaps.length) ∧
    (l.foldl State.recordGap s).eu.sticky.getLsbD 10 =
      (s.eu.sticky.getLsbD 10 || decide (16 - s.eu.gaps.length < l.length)) := by
  induction l generalizing s with
  | nil => simp
  | cons g l ih =>
    rw [List.foldl_cons, (ih _).1, (ih _).2]
    by_cases h : s.eu.gaps.length < 16
    · have e : s.recordGap g = s.setEu { s.eu with gaps := s.eu.gaps ++ [g] } := by
        unfold State.recordGap
        rw [if_pos (show s.eu.gaps.length < Config.gapListSize from h)]
      obtain ⟨k, hk⟩ : ∃ k, 16 - s.eu.gaps.length = k + 1 := ⟨15 - s.eu.gaps.length, by omega⟩
      have hk' : 16 - (s.eu.gaps.length + 1) = k := by omega
      rw [e]
      simp [hk, hk']
    · have e : s.recordGap g = s.raise .gapOverflow := by
        unfold State.recordGap
        rw [if_neg (show ¬s.eu.gaps.length < Config.gapListSize from h)]
      have hk : 16 - s.eu.gaps.length = 0 := by omega
      rw [e]
      simp [State.raise, StickyEvent.bit, hk]

/-- One stream's move: its records and its playback slots come after those that stand. -/
theorem State.applyMove_exact (s : State) (n : Fin 8) (mv : StreamMove) :
    (s.applyMove n mv).eu.gaps = s.eu.gaps ++ mv.gaps.take (16 - s.eu.gaps.length) ∧
    (s.applyMove n mv).eu.sticky.getLsbD 10 =
      (s.eu.sticky.getLsbD 10 || decide (16 - s.eu.gaps.length < mv.gaps.length)) ∧
    (s.applyMove n mv).su.drives = s.su.drives ++ mv.drives := by
  unfold State.applyMove
  have h : ∀ t : State, t.eu.gaps = s.eu.gaps → t.eu.sticky = s.eu.sticky → t.su.drives = s.su.drives →
      (mv.gaps.foldl State.recordGap t).eu.gaps = s.eu.gaps ++ mv.gaps.take (16 - s.eu.gaps.length) ∧
      (mv.gaps.foldl State.recordGap t).eu.sticky.getLsbD 10 =
        (s.eu.sticky.getLsbD 10 || decide (16 - s.eu.gaps.length < mv.gaps.length)) ∧
      (mv.gaps.foldl State.recordGap t).su.drives ++ mv.drives = s.su.drives ++ mv.drives := by
    intro t h1 h2 h3
    rw [(recordGaps_exact mv.gaps t).1, (recordGaps_exact mv.gaps t).2, State.recordGaps_su, h1, h2, h3]
    exact ⟨rfl, rfl, rfl⟩
  by_cases hx : mv.xrun = true
  · simp only [hx, if_true, State.setSu_eu, State.setSu_su]
    exact h _ rfl rfl rfl
  · simp only [hx, State.setSu_eu, State.setSu_su]
    exact h _ rfl rfl rfl

/-- The records and the playback slots of several streams, in their order (R19, R128). -/
theorem State.makeMoves_exact (M : Fin 8 → Stream → StreamMove) (l : List (Fin 8)) (hl : l.Nodup) (s : State) :
    (s.makeMoves M l).eu.gaps =
      s.eu.gaps ++ (l.flatMap fun n => (M n s.su.streams[n]).gaps).take (16 - s.eu.gaps.length) ∧
    (s.makeMoves M l).eu.sticky.getLsbD 10 = (s.eu.sticky.getLsbD 10 ||
      decide (16 - s.eu.gaps.length < (l.flatMap fun n => (M n s.su.streams[n]).gaps).length)) ∧
    (s.makeMoves M l).su.drives = s.su.drives ++ l.flatMap fun n => (M n s.su.streams[n]).drives := by
  induction l generalizing s with
  | nil => simp [State.makeMoves]
  | cons k l ih =>
    obtain ⟨hk, hl⟩ := List.nodup_cons.1 hl
    have e : s.makeMoves M (k :: l) = (s.applyMove k (M k s.su.streams[k])).makeMoves M l := rfl
    obtain ⟨a, b, c⟩ := ih hl (s.applyMove k (M k s.su.streams[k]))
    obtain ⟨a', b', c'⟩ := s.applyMove_exact k (M k s.su.streams[k])
    have same : ∀ n ∈ l, (s.applyMove k (M k s.su.streams[k])).su.streams[n] = s.su.streams[n] := by
      intro n hn
      rw [State.applyMove_streams]
      exact upd_ne _ (fun h : k = n => hk (h ▸ hn)) _
    have hg : (l.flatMap fun n => (M n (s.applyMove k (M k s.su.streams[k])).su.streams[n]).gaps) =
        l.flatMap fun n => (M n s.su.streams[n]).gaps :=
      List.flatMap_congr fun n hn => by rw [same n hn]
    have hd : (l.flatMap fun n => (M n (s.applyMove k (M k s.su.streams[k])).su.streams[n]).drives) =
        l.flatMap fun n => (M n s.su.streams[n]).drives :=
      List.flatMap_congr fun n hn => by rw [same n hn]
    rw [hg] at a b
    rw [hd] at c
    rw [e, a, b, c, a', b', c']
    simp only [List.flatMap_cons, List.take_append, List.length_append, List.length_take, List.append_assoc]
    refine ⟨?_, ?_, trivial⟩
    · congr 3
      omega
    · rw [Bool.or_assoc]
      congr 1
      rw [← Bool.decide_or]
      congr 1
      apply propext
      omega

/-- The records and the playback slots of a frame start (R19, R120, R124, R128). -/
theorem State.startStreams_exact (s : State) :
    let moves := fun n : Fin 8 => frameStartMove s.fe.frameNo s.sm.active s.nd n s.su.streams[n]
    s.startStreams.eu.gaps =
      s.eu.gaps ++ (streamNumbers.flatMap fun n => (moves n).gaps).take (16 - s.eu.gaps.length) ∧
    s.startStreams.eu.sticky.getLsbD 10 = (s.eu.sticky.getLsbD 10 ||
      decide (16 - s.eu.gaps.length < (streamNumbers.flatMap fun n => (moves n).gaps).length)) ∧
    s.startStreams.su.drives = s.su.drives ++ streamNumbers.flatMap fun n => (moves n).drives := by
  intro moves
  rw [State.startStreams_eq]
  exact State.makeMoves_exact _ _ nodup_streamNumbers s

/-- The records of a frame end (R122, R128). -/
theorem State.endStreams_exact (s : State) (p : List Bool) :
    let moves := fun n : Fin 8 => frameEndMove s.fe.frameNo s.sm.active p n s.su.streams[n]
    (s.endStreams p).eu.gaps =
      s.eu.gaps ++ (streamNumbers.flatMap fun n => (moves n).gaps).take (16 - s.eu.gaps.length) ∧
    (s.endStreams p).eu.sticky.getLsbD 10 = (s.eu.sticky.getLsbD 10 ||
      decide (16 - s.eu.gaps.length < (streamNumbers.flatMap fun n => (moves n).gaps).length)) := by
  intro moves
  rw [State.endStreams_eq]
  obtain ⟨a, b, _⟩ := State.makeMoves_exact (frameEndMove s.fe.frameNo s.sm.active p) _ nodup_streamNumbers s
  exact ⟨a, b⟩

end Sys2Proof.Machine
end

