-- ==== Sys2Proof/Laws/Validation.lean ====
section
/-! SUPPORT. What the passes of validation say of every record when they find nothing (R91). -/
namespace Sys2Proof.Machine

/-- A check that finds no slot number fails on no record. -/
theorem firstFailing_none {m : SlotTable} {p : Fin 32 → SlotRecord → Bool} (h : firstFailing m p = none) (k : Fin 32)
    (r : SlotRecord) (e : m[k] = some r) : p k r = false := by
  unfold firstFailing at h
  rw [List.find?_eq_none] at h
  have hk := h k (mem_slotNumbers k)
  rw [e] at hk
  simpa using hk

/-- Where no record satisfies `p`, none does. -/
theorem anyRecord_false {m : SlotTable} {p : Fin 32 → SlotRecord → Bool} (h : anyRecord m p = false) (k : Fin 32)
    (r : SlotRecord) (e : m[k] = some r) : p k r = false := by
  unfold anyRecord at h
  rw [List.any_eq_false] at h
  have hk := h k (mem_slotNumbers k)
  rw [e] at hk
  simpa using hk

/-- Checks that refuse nothing fail on no record. -/
theorem firstRefusal_none {m : SlotTable} : ∀ {l : List (Reason × (Fin 32 → SlotRecord → Bool))},
    firstRefusal m l = none → ∀ x ∈ l, ∀ (k : Fin 32) (r : SlotRecord), m[k] = some r → x.2 k r = false
  | [], _, _, hx => by cases hx
  | _ :: _, h, x, hx => by
    unfold firstRefusal at h
    split at h
    · cases h
    · rename_i hn
      rcases List.mem_cons.1 hx with rfl | hx
      · exact firstFailing_none hn
      · exact firstRefusal_none h x hx

/-- A verdict that passed and changed: the list holds a record, the sequential pass gave the map, no check refused it, and
it differs from the active map (R91, R95). -/
theorem validate_changed {list : List Change} {active m : SlotTable} {len : Nat} {nd : Directory}
    {ss : Vector Stream 8} (h : validate list active len nd ss = .changed m) :
    list ≠ [] ∧ applyChanges list 0 active = .ok m ∧ firstRefusal m (finalChecks len nd ss m) = none ∧ m ≠ active := by
  unfold validate at h
  split at h
  · cases h
  · split at h
    · cases h
    · rename_i e
      split at h
      · cases h
      · rename_i e2
        split at h
        · cases h
        · cases h
          exact ⟨by simp, e, e2, by assumption⟩

end Sys2Proof.Machine
end

