-- ==== Sys2Proof/Laws/Window.lean ====
section
/-! SUPPORT. Accesses of the window while the part is not held, and the numbers that saturating counts hold. -/
namespace Sys2Proof.Machine

theorem State.whenAlive_alive {s : State} (h : s.held = false) (f : State → State) : s.whenAlive f = f s := by
  simp [State.whenAlive, h]

theorem State.whenAlive_held {s : State} (h : s.held = true) (f : State → State) : s.whenAlive f = s := by
  simp [State.whenAlive, h]

/-- A write that carries every byte supplies the word as it is (R160). -/
theorem carriedWord_all (w : Word) : carriedWord w 15 = w := by
  unfold carriedWord
  simp [BitVec.getLsbD]
  exact BitVec.and_allOnes

/-- A write at an offset that names a register is taken by that register (R160, R161). -/
theorem exec_registerWrite {s : State} (h : s.held = false) {r : Reg} {o : WinOffset} (e : decodeOffset o = some r)
    (w : Word) (l : BitVec 4) : exec (.registerWrite o w l) s = .next (s.writeReg r (carriedWord w l)) := by
  simp only [exec, execRegisterWrite, State.whenAlive_alive h, State.hostWrite, e]

/-- A whole-word write at an offset that names a register. -/
theorem exec_registerWrite_all {s : State} (h : s.held = false) {r : Reg} {o : WinOffset}
    (e : decodeOffset o = some r) (w : Word) : exec (.registerWrite o w 15) s = .next (s.writeReg r w) := by
  rw [exec_registerWrite h e, carriedWord_all]

/-- A read at an offset that names a register returns the register's word (R160, R161). -/
theorem State.windowRead_alive {s : State} (h : s.held = false) {r : Reg} {o : WinOffset}
    (e : decodeOffset o = some r) : s.windowRead o = s.regWord r := by
  simp only [State.windowRead, h, e]
  simp

/-- A saturating count is one more, up to the largest value of its width. -/
theorem satInc_toNat {w : Nat} (x : BitVec w) : (satInc x).toNat = min (x.toNat + 1) (2 ^ w - 1) := by
  unfold satInc
  have hx := x.isLt
  split
  · rename_i h
    subst h
    simp [BitVec.toNat_allOnes]
  · rename_i h
    have hne : x.toNat ≠ 2 ^ w - 1 := fun hh =>
      h (BitVec.eq_of_toNat_eq (by simpa [BitVec.toNat_allOnes] using hh))
    rcases Nat.eq_zero_or_pos w with hw | hw
    · subst hw
      exact absurd (Subsingleton.elim _ _) h
    · have h1 : 1 < 2 ^ w := Nat.one_lt_two_pow (by omega)
      rw [BitVec.toNat_add, Nat.mod_eq_of_lt]
      · simp [Nat.mod_eq_of_lt h1]
        omega
      · simp [Nat.mod_eq_of_lt h1]
        omega

end Sys2Proof.Machine
end

