-- ==== Sys2Proof/WellFormed.lean ====
section
/-! DEFINITION. Well-formed commands: an operand is one the row can carry. -/
namespace Sys2Proof

/-- The offset of an UNMAPPED access lies in a word that names no register (R160). -/
def unmappedOffset (o : WinOffset) : Bool := (Machine.decodeOffset o).isNone

/-- A register write reaches a word that names a register (chapter 11.2). -/
def mappedOffset (o : WinOffset) : Bool := (Machine.decodeOffset o).isSome

/-- A write carries at least one byte (R160). -/
def carriesByte (lanes : BitVec 4) : Bool := decide (lanes ≠ 0)

/-- The payload of a frame has at most L - 128 bit periods, and L is at most 2048 (R1, R21). -/
def payloadFits (payload : List Bool) : Bool := decide (payload.length ≤ 1920)

/-- A command whose operands its row can carry. -/
def Instr.wellFormed (i : Instr) : Bool :=
  match i with
  | .unmapped o _ => unmappedOffset o
  | .registerWrite o _ lanes => mappedOffset o && carriesByte lanes
  | .frameEnd p => payloadFits p
  | .quietFramesEnd p => payloadFits p
  | .resetN => true
  | .refclkStop => true
  | .softReset => true
  | .linkStart => true
  | .linkStop => true
  | .faultClear => true
  | .frameStart => true
  | .readbackComparison _ => true
  | .contentionFault => true
  | .syncComplete => true
  | .identify => true
  | .assign => true
  | .ping => true
  | .read => true
  | .write => true
  | .slotSet => true
  | .slotClear => true
  | .switch => true
  | .cancel => true
  | .park => true
  | .resume => true
  | .unbind => true
  | .commandFieldSent => true
  | .cancelComplete => true
  | .responseArrival _ => true
  | .waitLimitExceeded _ => true
  | .retriesSpent _ => true
  | .lossLimitReached _ => true
  | .electionFailed _ => true
  | .switchInstall => true
  | .linkCfg _ => true
  | .xchgCfg _ => true
  | .linkErrorsClear => true
  | .surveyStart => true
  | .commitCheck => true
  | .commitApply => true
  | .chgAppend => true
  | .chgClear => true
  | .reqSubmit => true
  | .reqFlush => true
  | .cplPop => true
  | .gapPop => true
  | .evtClear _ => true
  | .sevtClear _ => true
  | .evtEnable _ => true
  | .sevtEnable _ => true
  | .faultRecordClear => true
  | .streamCfg _ _ => true
  | .streamLevels _ _ => true
  | .streamEnable _ _ => true
  | .streamDisable _ _ => true
  | .dmaEnable _ _ => true
  | .countsClear _ => true
  | .captureRead _ => true
  | .playbackWrite _ _ => true
  | .resetNRelease => true
  | .refclkRestart => true

end Sys2Proof
end

