-- ==== Sys2Proof/Tests/Slice0.lean ====
section
/-! SUPPORT. The model's own tests, each a named theorem: ill-formed commands refused, single steps worked out by hand from
the spec, and for each statement with hypotheses a state and operands that meet them. -/
namespace Sys2Proof.Tests
open Sys2Proof.Machine

/-! ### Builders -/

/-- The state a command leaves. -/
def after (o : Host.Outcome State Fault Refusal) : State :=
  match o with
  | .next t => t
  | .fault _ => State.reset
  | .refused _ => State.reset

/-- The reset state with the link in state `l` and the frame at position `p`. -/
def linked (l : LinkState) (p : FramePos) : State :=
  { State.reset with fe := { State.reset.fe with link := l, pos := p } }

/-- A state with a command in progress. -/
def flying (s : State) (r : InFlight) : State := { s with cx := { s.cx with inFlight := some r } }

/-- An in-flight record at attempt 1. -/
def inFlightOf (src : Source) (t : Target) (c : LinkCommand) (st : Stage) : InFlight :=
  { source := src, target := t, cmd := c, stage := st, attempt := 1, waits := 0 }

/-- A READY entry with both capabilities: eight ports each way, park, every width. -/
def readyEntry : Entry :=
  { state := .ready, identity := some 0x00A31003, caps := some { a := 0x188, b := 0x1F }, seq := false, resync := false
    miss := 0, lastHeard := 0 }

/-- A state with one entry of the directory set. -/
def withEntry (s : State) (a : NodeAddr) (e : Entry) : State := { s with nd := upd s.nd a e }

/-- A state with one stream set. -/
def withStream (s : State) (n : Fin 8) (st : Stream) : State :=
  { s with su := { s.su with streams := upd s.su.streams n st } }

/-- A running stream of capacity 8 in the direction given, holding the samples given. -/
def runningStream (d : Dir) (q : List Sample) : Stream :=
  { Stream.fresh with dir := d, capacity := 8, state := .running, queue := q, sinceStart := true }

/-- A 16-bit slot of node 1 at position 128, lane 0 of stream 0. -/
def slotOfNode1 (d : Dir) : SlotRecord :=
  { owner := 0, port := 0, dir := d, width := .w16, start := 128, stream := 0, lane := 0 }

/-- A state whose map holds one record. -/
def withSlot (s : State) (k : Fin 32) (r : SlotRecord) : State :=
  { s with sm := { s.sm with active := upd s.sm.active k (some r) } }

/-- A state with a commit in phase `p`. -/
def inPhase (s : State) (p : Phase) : State := { s with ce := { s.ce with phase := p } }

/-- A state with a request waiting. -/
def withRequest (s : State) (op : ReqOp) : State :=
  { s with rq := { s.rq with queue := [{ op := op, addr := 0, tag := 9 }] } }

/-! ### Ill-formed commands -/

theorem test_illformed_unmapped_offset : (Instr.unmapped 0x004 .read).wellFormed = false := by decide
theorem test_illformed_register_offset : (Instr.registerWrite 0x028 0 15).wellFormed = false := by decide
theorem test_illformed_register_lanes : (Instr.registerWrite 0x004 1 0).wellFormed = false := by decide
theorem test_wellformed_unmapped : (Instr.unmapped 0x028 .read).wellFormed = true := by decide
theorem test_illformed_payload : (Instr.frameEnd (List.replicate 1921 true)).wellFormed = false := by
  unfold Instr.wellFormed payloadFits
  simp only [List.length_replicate]
  decide
theorem test_illformed_quiet_payload : (Instr.quietFramesEnd (List.replicate 1921 true)).wellFormed = false := by
  unfold Instr.wellFormed payloadFits
  simp only [List.length_replicate]
  decide
theorem test_no_word_spells_a_command : decodeTableWord 16 0xFFFF = none := rfl

/-! ### Single steps worked out from the spec -/

set_option maxRecDepth 8000 in
/-- The check of IDLE's 40 covered bits F000000000h, by hand with the generator of R5. -/
theorem test_idle_field : idleField = 0xF00000000009#48 := by decide

/-- PING of frame 900 to node 3 carries pattern 84h (R10, chapter 3.10). -/
theorem test_ping_pattern : LinkCommand.ping.param 900 0 = 0x84 := by decide

/-- A DISABLED stream's port: cause 15, stream 3, offset 80Ch (R131, R155). -/
theorem test_read_disabled_port :
    (after (exec (.captureRead 3) State.reset)).windowRead 0x060 = 0x800BF80C := by decide

/-- A word written to LINK_CFG: n 12, DIV 4 (R22). -/
theorem test_link_cfg : (after (exec (.linkCfg 0x40C) State.reset)).fe.cfg = { n := 12, div := 4 } := by decide

/-- n above 56 is out of range (R22). -/
theorem test_link_cfg_illegal : (after (exec (.linkCfg 0x139) State.reset)).fe.cfg = State.reset.fe.cfg := by decide

/-- XCHG_CFG's reset word in its fields (chapter 11.3): retry 2, wait 16, loss 4, interval 0. -/
theorem test_xchg_cfg : xchgCfgOf 0x00041002 = State.reset.cx.cfg := by decide

/-- A narrow write of byte 1 carries 0 in the others (R160). -/
theorem test_carried_byte : carriedWord 0xFFFFFFFF 2 = 0x0000FF00 := by decide

/-- A signed 8-bit sample 84h reads FFFFFF84h; packed with 7Fh before it, FF84007Fh (R132, R133). -/
theorem test_sign_extension : Width.w8.extend true 0x84 = 0xFFFFFF84 := by decide
theorem test_packed_halves : Width.w8.extendHalf true 0x84 ++ Width.w8.extendHalf true 0x7F = 0xFF84007F#32 := by decide

/-- The slot at 128 reads its first bit as the most significant; past the end of the payload nobody drove (R2, R19). -/
theorem test_slot_bits : slotSample [true, false, false, false, false, true, false, false] (slotOfNode1 .capture) =
    0x84FF := by decide

/-- The staging words of an ADD of slot 3 at 128 for node 5, port 1, PLAYBACK, width 24, stream 2, lane 6. -/
theorem test_staged_add : stagedChange 0x62395030 128 = some (.add 3
    { owner := 4, port := 1, dir := .playback, width := .w24, start := 128, stream := 2, lane := 6 }) := by decide

/-- A NODE_WRITE of register 00h is protected whatever the entry (R146). -/
theorem test_protected : issueCheck (.nodeWrite 0x0F 1) readyEntry = .settled .isProtected false := by decide

/-- SURVEY_START with the link DOWN is refused: cause 3 at offset 020h (R69). -/
theorem test_survey_down : (after (exec .surveyStart State.reset)).windowRead 0x060 = 0x80003020 := by decide

/-- A SLOT_CLEAR of slot 0 comes before the SLOT_SET of slot 1 for one node (R100). -/
theorem test_staging_order :
    (stagingList (upd SlotTable.empty 0 (some (slotOfNode1 .capture)))
      (upd SlotTable.empty 1 (some (slotOfNode1 .playback)))).map StagingCmd.linkCommand =
    [.slotClear 0 .capture, .slotSet 0 .playback .w16 128] := by decide

set_option maxRecDepth 8000 in
/-- The example of chapter 3.10: a WAIT from node 7 in frame 901 is judged WAIT, with the check computed by hand. -/
theorem test_node_waits : judge 7 none 0x740000CC = .wait := by decide

set_option maxRecDepth 8000 in
/-- An answer from another address is garbled (R7). -/
theorem test_wrong_responder : judge 5 none 0x740000CC = .garbled := by decide

/-! ### States and operands that meet the hypotheses of the statements -/

theorem witness_StepTakesFrontCommand :
    ({ State.reset with pending := [.linkStart] } : State).pending = .linkStart :: [] ∧ State.reset.pending = [] := by
  decide

theorem witness_WindowReadsAsTabled :
    decodeOffset 0x007 = some .control ∧ decodeOffset 0x16F = some (.directory 13 true) ∧
    decodeOffset 0x81F = some (.dataPort 7) ∧ State.reset.held = false ∧ State.reset.ce.result.outcome = .none ∧
    ({ State.reset.ce.result with outcome := .applied } : CommitResult).outcome = .applied ∧
    ({ State.reset.ce.result with outcome := .aborted } : CommitResult).outcome = .aborted ∧
    State.reset.eu.fault = none ∧ State.reset.eu.gaps = [] ∧ State.reset.rq.completions = [] ∧
    State.reset.sm.active[(31 : Fin 32)] = none ∧ State.reset.cl.list[(15 : Fin 16).val]? = none := by decide

/-- A gap record of stream 7 with five lanes, a completion of node 14 with data, and a slot record, as their words. -/
theorem witness_WindowReadsAsTabled_present :
    ({ State.reset with eu := { State.reset.eu with
      gaps := [{ stream := 7, kind := .lanesChanged, frame := 0xABCD, index := 0, lanes := some 5 }] } } : State).windowRead
      0x070 = 0xABCD9537 ∧
    ({ State.reset with rq := { State.reset.rq with completions :=
      [{ tag := 0x5A, kind := .ping, addr := 13, outcome := .refused, data := some 4, attempts := 3 }] } } : State).windowRead
      0x090 = 0x8131E55A ∧
    (withSlot State.reset 31 (slotOfNode1 .playback)).windowRead 0x2F8 = 0x80001081 ∧
    ({ State.reset with cl := { State.reset.cl with list := [.add 31 (slotOfNode1 .playback)] } } : State).windowRead 0x300 =
      0x801811F0 ∧
    ({ State.reset with cl := { State.reset.cl with list := [.drop 31, .move 0 2047] } } : State).windowRead 0x300 =
      0x800001F1 ∧
    ({ State.reset with cl := { State.reset.cl with list := [.drop 31, .move 0 2047] } } : State).windowRead 0x30C = 2047 := by
  decide

theorem witness_DeviceResetsTakeEveryBlock :
    State.reset.held = false ∧ ({ State.reset with resetN := false } : State).resetN = false ∧
    ({ State.reset with refclk := false } : State).refclk = false := by decide

theorem witness_HeldAndUnmappedAccesses :
    ({ State.reset with resetN := false } : State).held = true ∧ ({ State.reset with refclk := false } : State).held = true ∧
    State.reset.held = false ∧ decodeOffset 0x028 = none ∧ decodeOffset 0x170 = none ∧ decodeOffset 0x820 = none := by
  decide

theorem witness_ControlTakesOneAction :
    State.reset.held = false ∧ (1 : Word).extractLsb' 0 4 = 1 ∧ (2 : Word).extractLsb' 0 4 = 2 ∧
    (4 : Word).extractLsb' 0 4 = 4 ∧ (8 : Word).extractLsb' 0 4 = 8 ∧ (0x10 : Word).extractLsb' 0 4 = 0 ∧
    (15 : Word).extractLsb' 0 4 = 15 := by decide

theorem witness_LinkStartBeginsSession :
    State.reset.held = false ∧ State.reset.fe.link = .down ∧ (linked .up .started).held = false ∧
    (linked .up .started).fe.link ≠ .down := by decide

theorem witness_LinkStopByState :
    (∀ l : LinkState, (linked l .started).held = false ∧ (linked l .started).fe.link = l ∧
      (linked l .started).ce.phase = .idle) ∧
    (∀ ph : Phase, (inPhase (linked .up .started) ph).fe.link = .up ∧ (inPhase (linked .up .started) ph).ce.phase = ph ∧
      (inPhase (linked .up .started) ph).cx.inFlight = none) ∧
    (flying (inPhase (linked .up .started) .staging)
      (inFlightOf .commit (.node 0) (.slotClear 0 .capture) .command)).cx.inFlight =
      some (inFlightOf .commit (.node 0) (.slotClear 0 .capture) .command) := by
  refine ⟨fun l => ?_, fun ph => ?_, rfl⟩
  · cases l <;> decide
  · cases ph <;> decide

theorem witness_FaultClearEntersDown :
    (linked .fault .ended).held = false ∧ (linked .fault .ended).fe.link = .fault ∧ (linked .up .started).fe.link ≠ .fault ∧
    (∀ k : Fin 32, (linked .fault .ended).sm.active[k] = none) ∧
    (withSlot (linked .fault .ended) 0 (slotOfNode1 .capture)).sm.active[(0 : Fin 32)] ≠ none := by decide

theorem witness_ConfigurationWritesInDown :
    State.reset.held = false ∧ State.reset.fe.link = .down ∧ (linked .up .started).fe.link ≠ .down ∧
    ((0x138 : Word).extractLsb' 0 6).toNat = 56 ∧ ((0x138 : Word).extractLsb' 8 7).toNat = 1 ∧
    ((0x4000 : Word).extractLsb' 8 7).toNat = 64 ∧ ((0x139 : Word).extractLsb' 0 6).toNat = 57 ∧
    ((0x00C : Word).extractLsb' 8 7).toNat = 0 ∧ ((0x4100 : Word).extractLsb' 8 7).toNat = 65 ∧
    (xchgCfgOf 0x00010100).wait ≠ 0 ∧ (xchgCfgOf 0x00010100).loss ≠ 0 ∧ (xchgCfgOf 0x00010000).wait = 0 ∧
    (xchgCfgOf 0x00000100).loss = 0 := by decide

theorem witness_EventsAndCountersCleared : State.reset.held = false := by decide

theorem witness_EnablesAndInterrupt :
    State.reset.held = false ∧ ({ State.reset with eu := { State.reset.eu with sticky := 1, enable := 1 } } : State).irq = true := by
  decide

theorem witness_AccessFaultRecorded :
    State.reset.eu.fault = none ∧ (State.reset.accessFault .dry 0x800).eu.fault ≠ none ∧
    streamOfOffset 0x41C = some 0 ∧ streamOfOffset 0x4FC = some 7 ∧ streamOfOffset 0x81C = some 7 ∧
    streamOfOffset 0x500 = none ∧ streamOfOffset 0x3FC = none ∧ streamOfOffset 0x820 = none := by decide

theorem witness_FaultRecordCleared : State.reset.held = false := by decide

/-- A gap record of stream 0. -/
def aGap : GapRecord := { stream := 0, kind := .start, frame := 1, index := 0, lanes := some 0 }

/-- A state with `n` gap records. -/
def withGaps (n : Nat) : State := { State.reset with eu := { State.reset.eu with gaps := List.replicate n aGap } }

theorem witness_GapPopTakesHead :
    (withGaps 1).held = false ∧ (withGaps 1).eu.gaps = aGap :: [] ∧ (withGaps 15).eu.gaps.length = 15 ∧
    (withGaps 15).eu.gaps ≠ [] ∧ (withGaps 0).eu.gaps = [] ∧ (withGaps 16).eu.gaps.length = 16 := by decide

/-- A state with the staging words and a change list of `n` records. -/
def staged (w0 w1 : Word) (n : Nat) : State :=
  { State.reset with cl := { stage0 := w0, stage1 := w1, list := List.replicate n (.drop 0) } }

theorem witness_AppendJudged :
    (staged 0 0 0).held = false ∧ (staged 0 0 0).ce.phase = .idle ∧ (inPhase State.reset .pending).ce.phase ≠ .idle ∧
    (staged 0 0 16).cl.list.length = 16 ∧ (staged 0 0 15).cl.list.length = 15 ∧ (3 : Word).extractLsb' 0 2 = 3 ∧
    ((0x00500000 : Word).extractLsb' 20 3).toNat = 5 ∧ ((0x00400000 : Word).extractLsb' 20 3).toNat = 4 ∧
    ((127 : Word).extractLsb' 0 11).toNat = 127 ∧ ((128 : Word).extractLsb' 0 11).toNat = 128 ∧
    (0xF000 : Word).extractLsb' 12 4 = 15 ∧ (0xE000 : Word).extractLsb' 12 4 = 14 ∧ (1 : Word).extractLsb' 0 2 = 1 ∧
    (2 : Word).extractLsb' 0 2 = 2 := by decide

theorem witness_ChangeListCleared :
    (staged 0 0 16).held = false ∧ (staged 0 0 16).ce.phase = .idle ∧ (inPhase State.reset .cancelling).held = false ∧
    (inPhase State.reset .cancelling).ce.phase ≠ .idle := by decide

theorem witness_CommitWriteJudged :
    State.reset.held = false ∧ State.reset.ce.phase = .idle ∧ State.reset.fe.link ≠ .up ∧
    (linked .up .started).held = false ∧ (linked .up .started).ce.phase = .idle ∧ (linked .up .started).fe.link = .up ∧
    (inPhase State.reset .staging).ce.phase ≠ .idle ∧ (3 : Word).extractLsb' 0 2 = 3 ∧ (1 : Word).extractLsb' 0 2 = 1 ∧
    (2 : Word).extractLsb' 0 2 = 2 := by decide

/-- A directory whose node 1 is READY, and streams of which stream 0 is a 16-bit PLAYBACK stream of capacity 8. -/
def oneNode : State :=
  withStream (withEntry State.reset 0 readyEntry) 0 { Stream.fresh with dir := .playback, capacity := 8 }

/-- The verdict on a change list against an empty map, with L = 256. -/
def verdictOn (s : State) (list : List Change) : Verdict :=
  Machine.validate list SlotTable.empty 256 s.nd s.su.streams

set_option maxRecDepth 20000 in
/-- An ADD of a slot that ends exactly at L = 256 passes as changed; an ADD and the DROP of it as unchanged. -/
theorem witness_ValidatedMapPassesEveryCheck :
    verdictOn oneNode [.add 0 { slotOfNode1 .playback with start := 240 }] =
      .changed (upd SlotTable.empty 0 (some { slotOfNode1 .playback with start := 240 })) ∧
    verdictOn oneNode [.add 0 (slotOfNode1 .playback), .drop 0] = .unchanged := by decide

/-- The changes that the pass refuses SLOT_NUMBER, and the index each is refused at. -/
theorem witness_ValidatedMapPassesEveryCheck_pass :
    verdictOn oneNode [] = .refusedEmpty ∧ verdictOn oneNode [.drop 0] = .refusedSlotNumber 0 ∧
    verdictOn oneNode [.add 0 (slotOfNode1 .playback), .add 0 (slotOfNode1 .playback)] = .refusedSlotNumber 1 ∧
    verdictOn oneNode [.add 0 (slotOfNode1 .playback), .move 1 128] = .refusedSlotNumber 1 := by decide

set_option maxRecDepth 20000 in
/-- Each check in turn refuses a map that meets every check before it. -/
theorem witness_ValidatedMapPassesEveryCheck_checks :
    let r := slotOfNode1 .playback
    let portless := withEntry oneNode 0 { readyEntry with caps := some { a := 0x000, b := 0x1F } }
    let priming := withStream oneNode 0 { Stream.fresh with dir := .playback, capacity := 0, state := .priming }
    verdictOn oneNode [.add 0 { r with start := 241 }] = .refusedCheck .range 0 ∧
    verdictOn oneNode [.add 0 { r with start := 143, port := 1, lane := 1 }, .add 1 r] = .refusedCheck .overlap 0 ∧
    verdictOn oneNode [.add 0 { r with owner := 1 }] = .refusedCheck .owner 0 ∧
    verdictOn portless [.add 0 r] = .refusedCheck .capability 0 ∧
    verdictOn oneNode [.add 0 { r with start := 144, lane := 1 }, .add 1 r] = .refusedCheck .portClash 0 ∧
    verdictOn oneNode [.add 0 { r with dir := .capture }] = .refusedCheck .streamMismatch 0 ∧
    verdictOn oneNode [.add 0 r, .add 1 { r with start := 144, port := 1 }] = .refusedCheck .lane 1 ∧
    verdictOn priming [.add 0 r] = .refusedCheck .capacity 0 := by decide

theorem witness_SurveyStartJudged :
    (linked .up .started).held = false ∧ (linked .up .started).fe.link = .up ∧
    (linked .up .started).sv.state = .idle ∧ (linked .draining .started).fe.link ≠ .up ∧
    ({ linked .up .started with sv := { Survey.fresh with state := .binding } } : State).sv.state = .binding ∧
    (1 : Word).getLsbD 0 = true ∧ (2 : Word).getLsbD 0 = false := by decide

/-- A state with `n` requests waiting and the first request staging word. -/
def submitting (w0 : Word) (n : Nat) : State :=
  { State.reset with rq := { RequestQueue.fresh with
    stage0 := w0, queue := List.replicate n { op := .ping, addr := 0, tag := 0 } } }

theorem witness_SubmissionJudged :
    (submitting 0 8).held = false ∧ (submitting 0 8).rq.queue.length = 8 ∧ (submitting 0 7).rq.queue.length = 7 ∧
    ((0x1600 : Word).extractLsb' 8 3).toNat = 6 ∧ ((0x1500 : Word).extractLsb' 8 3).toNat = 5 ∧
    (0x1500 : Word).extractLsb' 12 4 = 1 ∧ (0xF000 : Word).extractLsb' 12 4 = 15 ∧ (0xE000 : Word).extractLsb' 12 4 = 14 := by
  decide

/-- A completion of a PING. -/
def aCompletion : Completion := { tag := 9, kind := .ping, addr := 0, outcome := .done, data := none, attempts := 1 }

theorem witness_FlushAndCompletionPop :
    (submitting 0 8).held = false ∧ (submitting 0 8).cx.inFlight = none ∧
    (flying (withRequest State.reset .ping) (inFlightOf .request (.node 0) .ping .command)).cx.inFlight =
      some (inFlightOf .request (.node 0) .ping .command) ∧
    (withRequest State.reset .ping).rq.queue = { op := .ping, addr := 0, tag := 9 } :: [] ∧
    ({ State.reset with rq := { RequestQueue.fresh with completions := [aCompletion] } } : State).rq.completions =
      aCompletion :: [] ∧ State.reset.rq.completions = [] := by decide

theorem witness_StreamCfgJudged :
    State.reset.held = false ∧ State.reset.su.streams[(0 : Fin 8)].state = .disabled ∧
    (withStream State.reset 0 (runningStream .capture [])).su.streams[(0 : Fin 8)].state ≠ .disabled ∧
    ((0x02000002 : Word).extractLsb' 16 10).toNat = 512 ∧ ((0x02000002 : Word).extractLsb' 1 3).toNat = 1 ∧
    ((0x0000000A : Word).extractLsb' 1 3).toNat = 5 ∧ ((0x02080002 : Word).extractLsb' 16 10).toNat = 520 ∧
    ((0x00040002 : Word).extractLsb' 16 10).toNat = 4 ∧
    (let big : Stream := { Stream.fresh with capacity := 512 }
     let s := withStream (withStream State.reset 1 big) 2 { big with capacity := 8 }
     otherCapacities (withStream State.reset 1 big).su.streams 0 = 512 ∧ otherCapacities s.su.streams 0 = 520) := by
  decide

theorem witness_LevelsTaken :
    State.reset.held = false ∧ Stream.fresh.capacity < (1 : BitVec 10).toNat ∧ (8 : BitVec 10) ≠ 0 ∧
    (8 : BitVec 10).toNat ≤ (runningStream .capture []).capacity ∧
    (runningStream .capture (List.replicate 8 0)).effective 0 ≤
      (runningStream .capture (List.replicate 8 0)).queue.length ∧
    (runningStream .playback []).effective 8 ≤
      (runningStream .playback []).capacity - (runningStream .playback []).queue.length := by decide

/-- A state whose stream 0 is DISABLED with capacity 8. -/
def oneStream : State := withStream State.reset 0 { Stream.fresh with capacity := 8 }

theorem witness_StreamEnabled :
    oneStream.held = false ∧ oneStream.su.streams[(0 : Fin 8)].state = .disabled ∧
    oneStream.su.streams[(0 : Fin 8)].capacity ≠ 0 ∧
    (∀ m, m = oneStream.sm.active ∨ oneStream.ce.pending = some m → recordCount m 0 ≤
        oneStream.su.streams[(0 : Fin 8)].capacity ∧
      ∀ (k : Fin 32) (r : SlotRecord), m[k] = some r → r.stream = 0 →
        r.dir = oneStream.su.streams[(0 : Fin 8)].dir ∧ r.width = oneStream.su.streams[(0 : Fin 8)].width) ∧
    oneStream.eu.gaps.length = 0 ∧ (withGaps 15).eu.gaps.length = 15 ∧ (withGaps 16).eu.gaps.length = 16 ∧
    (withStream State.reset 0 (runningStream .capture [])).su.streams[(0 : Fin 8)].state ≠ .disabled := by
  refine ⟨by decide, by decide, by decide, ?_, by decide, by decide, by decide, by decide⟩
  rintro m (rfl | h)
  · refine ⟨by decide, ?_⟩
    intro k r h
    rw [show oneStream.sm.active[k] = none by simp [oneStream, withStream, State.reset, SlotTable.empty]] at h
    cases h
  · cases h

theorem witness_StreamControlTaken :
    State.reset.held = false ∧ State.reset.su.streams[(0 : Fin 8)].state = .disabled ∧
    State.reset.su.streams[(0 : Fin 8)].capacity = 0 ∧ oneStream.su.streams[(0 : Fin 8)].capacity ≠ 0 ∧
    (let s := withStream (withSlot (withSlot State.reset 0 (slotOfNode1 .capture)) 1 (slotOfNode1 .capture)) 0
        { Stream.fresh with capacity := 1 }
     s.su.streams[(0 : Fin 8)].capacity < recordCount s.sm.active 0) ∧
    (withSlot oneStream 0 (slotOfNode1 .playback)).sm.active[(0 : Fin 32)] = some (slotOfNode1 .playback) ∧
    (slotOfNode1 .playback).dir ≠ oneStream.su.streams[(0 : Fin 8)].dir ∧
    recordCount (withSlot oneStream 0 (slotOfNode1 .playback)).sm.active 0 ≤ 8 ∧
    (3 : Word).getLsbD 0 = true ∧ (3 : Word).getLsbD 1 = true := by decide

theorem witness_CaptureReadReturnsHead :
    (∀ q : List Sample, (withStream State.reset 7 (runningStream .capture q)).held = false) ∧
    (runningStream .capture []).state ≠ .disabled ∧ (runningStream .capture [5]).queue = 5 :: [] ∧
    (runningStream .capture [5]).packing = false ∧ (runningStream .playback []).dir = .playback ∧
    ({ runningStream .capture [5, 6] with packing := true } : Stream).queue = 5 :: 6 :: [] ∧
    Stream.fresh.state = .disabled := by
  refine ⟨fun _ => rfl, ?_⟩
  decide

theorem witness_PlaybackWriteAdds :
    (∀ q : List Sample, (withStream State.reset 7 (runningStream .playback q)).held = false) ∧
    (runningStream .playback []).state ≠ .disabled ∧ (runningStream .playback []).dir = .playback ∧
    (runningStream .playback (List.replicate 7 0)).freeCount = 1 ∧
    (runningStream .playback (List.replicate 6 0)).freeCount = 2 ∧
    (runningStream .playback (List.replicate 8 0)).freeCount = 0 ∧ (runningStream .playback []).packing = false ∧
    ({ runningStream .playback [] with packing := true } : Stream).packing = true ∧
    (runningStream .capture []).dir = .capture := by
  refine ⟨fun _ => rfl, ?_⟩
  decide

theorem witness_RegisterWritesReachTheirRows :
    State.reset.held = false ∧ Reg.id.isReadOnly = true ∧ (Reg.streamSamples 7).isReadOnly = true ∧
    (1 : Word).getLsbD 0 = true ∧ (1 : Word).getLsbD 1 = false ∧ (2 : Word).getLsbD 0 = false ∧
    (2 : Word).getLsbD 1 = true := by decide

/-- One command of each kind, with a target it is sent to. -/
def eachKind : List (Target × LinkCommand) :=
  [(.unbound, .identify), (.unbound, .assign 13), (.node 0, .ping), (.node 0, .read 0xFF), (.node 0, .write 0x10 0xFFFF),
    (.node 0, .slotSet 7 .playback .w32 2016), (.node 0, .slotClear 7 .capture), (.broadcast, .switch),
    (.broadcast, .cancel), (.node 13, .park), (.node 13, .resume), (.node 13, .unbind)]

theorem witness_SendingPlacesTheField :
    ∀ p ∈ eachKind,
      (flying (linked .up .started) (inFlightOf .request p.1 p.2 .command)).cx.inFlight =
        some (inFlightOf .request p.1 p.2 .command) ∧
      (flying (linked .up .compared) (inFlightOf .request p.1 p.2 .command)).fe.before .placed = true ∧
      (inFlightOf .request p.1 p.2 .command).sending = p.2 ∧
      (inFlightOf .request p.1 p.2 .resyncPing).sending = .ping := by decide

theorem witness_CommandFieldEnds :
    (linked .up .placed).fe.running = true ∧ (linked .up .placed).fe.pos = .placed ∧
    (linked .up .started).cx.inFlight = none ∧ (linked .up .compared).fe.pos = .compared ∧
    (inFlightOf .commit .broadcast .cancel .command).target = .broadcast ∧
    (inFlightOf .commit .broadcast .cancel .command).sending = .cancel ∧
    (inFlightOf .request (.node 0) .ping .command).target ≠ .broadcast ∧
    (let s := inPhase (flying (linked .up .placed) (inFlightOf .commit .broadcast .cancel .command)) .cancelling
     let s1 : State := { s with ce := { s.ce with copies := 1 } }
     let s2 : State := { s with ce := { s.ce with copies := 2 } }
     s1.ce.phase = .cancelling ∧ s1.ce.copies = 1 ∧ s2.ce.phase = .cancelling ∧ s2.ce.copies = 2) := by decide

theorem witness_SyncFramesCounted :
    (linked .syncing .ended).fe.link = .syncing ∧
    ({ (linked .syncing .ended).fe with syncCount := 14 } : FrameEngine).syncCount < 15 ∧
    15 ≤ ({ (linked .syncing .ended).fe with syncCount := 15 } : FrameEngine).syncCount := by decide

theorem witness_FrameStartFormsMap :
    (linked .up .ended).fe.link = .up ∧ (linked .draining .ended).fe.link = .draining ∧
    (after (exec .frameStart (linked .up .ended))).sm.active = (linked .up .ended).sm.active ∧
    (after (exec .frameStart (withSlot (linked .up .ended) 0 (slotOfNode1 .capture)))).sm.active ≠
      (withSlot (linked .up .ended) 0 (slotOfNode1 .capture)).sm.active := by decide

/-- A commit in SWITCHING whose switch frame is the next frame. -/
def switching (l : LinkState) : State :=
  let s := linked l .ended
  { s with ce := { s.ce with
    phase := .switching, copies := 3, switchFrame := some 1
    pending := some (upd SlotTable.empty 0 (some (slotOfNode1 .playback))) } }

/-- At the switch frame the pending map is the base of the formation, elsewhere the active map. -/
theorem witness_FrameStartFormsMap_base :
    ((switching .up).ce.phase = .switching ∧ (switching .up).ce.switchFrame = some ((switching .up).fe.frameNo + 1) ∧
      (switching .up).ce.pending = some (upd SlotTable.empty 0 (some (slotOfNode1 .playback)))) ∧
    ¬((linked .up .ended).ce.phase = .switching ∧
      (linked .up .ended).ce.switchFrame = some ((linked .up .ended).fe.frameNo + 1)) := by decide

theorem witness_SwitchInstalled :
    (switching .up).fe.link = .up ∧ (switching .draining).fe.link = .draining ∧
    (switching .up).ce.phase = .switching ∧ (switching .up).ce.switchFrame = some ((switching .up).fe.frameNo + 1) ∧
    (switching .up).ce.pending = some (upd SlotTable.empty 0 (some (slotOfNode1 .playback))) := by decide

theorem witness_LiveSetsFixed :
    (linked .up .ended).fe.link = .up ∧ (linked .draining .ended).fe.link = .draining ∧
    (linked .draining .ended).fe.drainFromSync = false ∧ (linked .up .ended).su.streams[(0 : Fin 8)].state = .disabled ∧
    (let s := withSlot (withEntry (withStream (linked .up .ended) 0 (runningStream .capture [])) 0 readyEntry) 0
        (slotOfNode1 .capture)
     s.su.streams[(0 : Fin 8)].state ≠ .disabled ∧
     (after (exec .frameStart s)).su.streams[(0 : Fin 8)].live ≠ s.su.streams[(0 : Fin 8)].live) := by decide

/-- A link in UP with one playback slot of stream 0, whose context is `st`. -/
def playing (st : Stream) : State :=
  withSlot (withEntry (withStream (linked .up .ended) 0 st) 0 readyEntry) 0 (slotOfNode1 .playback)

/-- The group of stream 0 at the next frame start. -/
def nextGroup (s : State) : List (Fin 32 × SlotRecord) :=
  groupOf (after (exec .frameStart s)).sm.active (after (exec .frameStart s)).su.streams[(0 : Fin 8)].live

theorem witness_PlaybackReleasesWholeGroups :
    (let s := withStream (linked .up .ended) 0 (runningStream .playback [5])
     s.fe.link = .up ∧ s.su.streams[(0 : Fin 8)].dir = .playback ∧ (nextGroup s).length = 0) ∧
    (nextGroup (playing (runningStream .playback [5]))).length = 1 ∧
    (nextGroup (playing (runningStream .playback []))).length = 1 ∧
    (let st : Stream := { runningStream .playback [5] with state := .priming, startLevel := 1 }
     st.effective st.startLevel ≤ st.queue.length ∧ (nextGroup (playing st)).length ≤ st.queue.length) ∧
    (let st : Stream := { runningStream .playback [] with state := .priming, startLevel := 1 }
     st.queue.length < st.effective st.startLevel) := by decide

/-- The slots a frame carries: a sample released, the fill value 0, and the hold value of a PRIMING stream. -/
theorem witness_PlaybackReleasesWholeGroups_slots :
    let slot (v : Sample) : Drive := { slot := 0, start := 128, width := .w16, value := v }
    (after (exec .frameStart (playing (runningStream .playback [5])))).su.drives = [slot 5] ∧
    (after (exec .frameStart (playing (runningStream .playback [])))).su.drives = [slot 0] ∧
    (after (exec .frameStart (playing { runningStream .playback [] with
      state := .priming, fillMode := .hold, hold := Vector.replicate 8 9 }))).su.drives = [slot 9] := by decide

/-- At the release of the sample 5 lane 0 holds it, and lane 1, which has no slot, keeps its hold value 9. -/
theorem witness_PlaybackReleasesWholeGroups_hold :
    let s := playing { runningStream .playback [5] with hold := Vector.replicate 8 9 }
    let st := (after (exec .frameStart s)).su.streams[(0 : Fin 8)]
    (nextGroup s)[0]? = some (0, slotOfNode1 .playback) ∧ s.su.streams[(0 : Fin 8)].queue[0]? = some 5 ∧
    st.hold[(0 : Fin 8)] = 5 ∧ (∀ p ∈ nextGroup s, p.2.lane ≠ 1) ∧ st.hold[(1 : Fin 8)] = 9 ∧
    (linked .up .ended).lclkPeriod = some 2 ∧ State.reset.lclkPeriod = none := by decide

set_option maxRecDepth 8000 in
/-- The line in such a frame: the least significant bit of the sample 5 at position 143, and nothing past the slot. -/
theorem witness_PlaybackReleasesWholeGroups_line :
    let s := after (exec .commandFieldSent (after (exec .frameStart (playing (runningStream .playback [5])))))
    s.lclkRuns = true ∧ s.cx.field = some idleField ∧ s.ldat 0 = some true ∧ s.ldat 23 = some true ∧
    s.ldat 24 = some true ∧ s.ldat 71 = some true ∧ s.ldat 72 = none ∧ s.ldat 127 = none ∧ s.ldat 128 = some false ∧
    s.ldat 142 = some false ∧ s.ldat 143 = some true ∧ s.ldat 144 = none ∧ State.reset.ldat 0 = none := by decide

/-- A link in UP with a survey whose state is `v`. -/
def surveying (v : SurveyState) (b : Option Binding) : State :=
  { linked .up .ended with sv := { Survey.fresh with state := v, binding := b } }

/-- The binding of an identity to node 1. -/
def aBinding : Binding := { identity := 0x00A31003, target := 0, rejoin := false, capA := none }

theorem witness_ArbiterGrantsInOrder :
    (linked .up .ended).fe.link = .up ∧ (linked .draining .ended).fe.link = .draining ∧
    (linked .up .ended).cx.inFlight = none ∧ (linked .up .ended).ce.phase = .idle ∧
    (linked .up .ended).sv.state.isRunning = false ∧ (linked .up .ended).rq.queue = [] ∧
    (linked .up .ended).cx.cfg.interval = 0 ∧
    (let c : StagingCmd := { slot := 0, target := 0, port := 0, dir := .capture, op := .clear }
     let s := inPhase (linked .up .ended) .staging
     ({ s with ce := { s.ce with staging := [c] } } : State).ce.staging = c :: []) ∧
    (inPhase (linked .up .ended) .switching).ce.copies < 3 ∧
    (inPhase (linked .up .ended) .switching).ce.switchFrame ≠ some 1 ∧
    (inPhase (linked .draining .ended) .cancelling).ce.phase = .cancelling ∧
    (surveying .seeking none).sv.state = .seeking ∧ (surveying .elected (some aBinding)).sv.binding = some aBinding ∧
    (withRequest (withEntry (linked .up .ended) 0 readyEntry) .ping).rq.queue = { op := .ping, addr := 0, tag := 9 } :: [] ∧
    issueCheck .ping readyEntry = .sent .ping ∧
    (surveying .binding (some aBinding)).sv.binding = some aBinding ∧ aBinding.capA = none ∧
    ({ aBinding with capA := some 0x188 } : Binding).capA ≠ none ∧
    (inPhase (surveying .seeking none) .pending).ce.phase = .pending ∧
    3 ≤ ({ (inPhase (linked .up .ended) .switching).ce with copies := 3 } : Commit).copies := by decide

/-- A commit in PENDING in UP with the change list given, node 1 READY and stream 0 a PLAYBACK stream. -/
def deciding (list : List Change) : State :=
  { inPhase (linked .up .ended) .pending with nd := oneNode.nd, su := oneNode.su, cl := { State.reset.cl with list := list } }

/-- The Commit Engine after the offer to such a commit. -/
def decided (list : List Change) : Commit := (after (exec .frameStart (deciding list))).ce

set_option maxRecDepth 20000 in
/-- What a PENDING commit becomes at its offer, for each kind of verdict. -/
theorem witness_ArbiterGrantsInOrder_pending :
    let r := slotOfNode1 .playback
    (decided []).phase = .idle ∧ (decided []).result = .refusal .apply .empty none none ∧
    (decided [.drop 3]).result = .refusal .apply .slotNumber (some 0) none ∧
    (decided [.add 3 { r with start := 241 }]).result = .refusal .apply .range none (some 3) ∧
    (decided [.add 3 r, .drop 3]).result = .plain .apply .unchanged ∧ (decided [.add 3 r]).phase = .staging ∧
    (decided [.add 3 r]).staging = [{ slot := 3, target := 0, port := 0, dir := .playback, op := .set .w16 128 }] ∧
    (after (exec .frameStart (deciding [.add 3 r]))).cx.inFlight =
      some (inFlightOf .commit (.node 0) (.slotSet 0 .playback .w16 128) .command) := by decide

/-- A link in UP with the ping interval 1 and nodes 1 and 14 READY, never heard since frame 0. -/
def keeping (scan : Nat) : State :=
  let s := withEntry (withEntry (linked .up .ended) 0 readyEntry) 13 readyEntry
  { s with cx := { s.cx with scan := scan, cfg := { s.cx.cfg with interval := 1 } } }

theorem witness_KeepaliveServesDueEntries :
    (∀ scan ∈ [0, 1, 14], (keeping scan).fe.link = .up ∧ (keeping scan).cx.inFlight = none ∧
      (keeping scan).ce.phase = .idle ∧ (keeping scan).sv.state.isRunning = false ∧ (keeping scan).rq.queue = [] ∧
      (keeping scan).cx.cfg.interval ≠ 0 ∧
      (keeping scan).cx.cfg.interval.toNat ≤
        ((keeping scan).fe.frameNo + 1 - (keeping scan).nd[(13 : Fin 14)].lastHeard).toNat) ∧
    (let s := linked .up .ended
     let s : State := { s with cx := { s.cx with cfg := { s.cx.cfg with interval := 1 } } }
     s.cx.cfg.interval ≠ 0 ∧ ∀ a : NodeAddr, s.nd[a].state = .free) := by decide

theorem witness_IssueTimeChecks :
    readyEntry.state = .ready ∧ Entry.freeEntry.state = .free ∧ readyEntry.caps = some { a := 0x188, b := 0x1F } ∧
    (0x0F : BitVec 8).toNat < 16 ∧ 16 ≤ (0x10 : BitVec 8).toNat ∧
    (let s := withRequest (withEntry (linked .up .ended) 0 { readyEntry with state := .lost }) .release
     s.fe.link = .up ∧ s.cx.inFlight = none ∧ s.ce.phase = .idle ∧ s.sv.state.isRunning = false ∧
     s.rq.queue = [{ op := .release, addr := 0, tag := 9 }] ∧ s.rq.completions.length < 16 ∧
     issueCheck .release s.nd[(0 : Fin 14)] = .settled .done true) := by decide

/-- A link in UP with node 1 LOST, node 2 READY, `n` completions, and three requests: a RELEASE and a PING of node 1 that
settle, and a PING of node 2 that needs traffic. -/
def settling (n : Nat) : State :=
  let s := withEntry (withEntry (linked .up .ended) 0 { readyEntry with state := .lost }) 1 readyEntry
  { s with rq := { s.rq with
    queue := [{ op := .release, addr := 0, tag := 1 }, { op := .ping, addr := 0, tag := 2 }, { op := .ping, addr := 1, tag := 3 }]
    completions := List.replicate n { tag := 9, kind := .ping, addr := 0, outcome := .done, data := none, attempts := 1 } } }

set_option maxRecDepth 8000 in
/-- Two requests settled in one offer, the second against the entry the first freed, and the third granted the field; with
15 completions one is settled and the list is full; with 16 nothing is settled and nothing sent. -/
theorem witness_IssueTimeChecks_offer :
    let out (n : Nat) : State := after (exec .frameStart (settling n))
    issueCheck .release (settling 0).nd[(0 : Fin 14)] = .settled .done true ∧
    issueCheck .ping Entry.freeEntry = .settled .notBound false ∧
    (out 0).rq.completions.map Completion.outcome = [.done, .notBound] ∧ (out 0).rq.queue.length = 1 ∧
    (out 0).cx.inFlight = some (inFlightOf .request (.node 1) .ping .command) ∧
    (out 15).rq.queue.length = 2 ∧ (out 15).rq.completions.length = 16 ∧ (out 15).cx.inFlight = none ∧
    (out 16).rq = (settling 16).rq ∧ (out 16).cx.inFlight = none := by decide

theorem witness_ReadbackJudged :
    (linked .syncing .started).fe.before .compared = true ∧ (0xB20000 : BitVec 24) = 0xB2#8 ++ (0 : BitVec 16) ∧
    (0xB20001 : BitVec 24) ≠ 0xB2#8 ++ (0 : BitVec 16) ∧
    ({ (linked .up .started).fe with contentionRun := 1 } : FrameEngine).contentionRun < 2 := by decide

/-- A state on its third contention frame, in the middle of a commit, a survey and a request. -/
def contending : State :=
  let s := flying (withRequest (inPhase (surveying .seeking none) .staging) .ping)
    (inFlightOf .request (.node 0) .ping .command)
  { s with fe := { s.fe with pos := .started, contentionRun := 2 } }

theorem witness_ContentionFaultEntersFault :
    contending.fe.before .compared = true ∧ 2 ≤ contending.fe.contentionRun ∧ contending.ce.phase ≠ .idle ∧
    contending.sv.state.isRunning = true ∧
    contending.cx.inFlight = some (inFlightOf .request (.node 0) .ping .command) ∧
    contending.rq.queue = { op := .ping, addr := 0, tag := 9 } :: [] ∧ contending.rq.completions.length < 16 ∧
    (linked .up .started).ce.phase = .idle ∧ (linked .up .started).cx.inFlight = none := by decide

/-- A link in UP at its frame end, with one capture slot of stream 0, whose live set holds it. -/
def capturing (q : List Sample) : State :=
  withSlot (withStream (linked .up .answered) 0 { runningStream .capture q with live := [0] }) 0 (slotOfNode1 .capture)

theorem witness_CaptureDeliversWholeGroups :
    (capturing []).fe.link = .up ∧ (capturing []).fe.pos = .answered ∧
    (groupOf (capturing []).sm.active (capturing []).su.streams[(0 : Fin 8)].live).length = 1 ∧
    (capturing []).su.streams[(0 : Fin 8)].sinceStart = true ∧
    (capturing (List.replicate 7 0)).su.streams[(0 : Fin 8)].freeCount = 1 ∧
    (capturing (List.replicate 8 0)).su.streams[(0 : Fin 8)].freeCount = 0 ∧
    (linked .up .answered).su.streams[(0 : Fin 8)].state = .disabled ∧
    groupOf SlotTable.empty (runningStream .capture []).live = [] ∧ 128 ≤ (slotOfNode1 .capture).start.toNat ∧
    (capturing (List.replicate 8 0)).su.streams[(0 : Fin 8)].xrun = false := by decide

/-- A drain at its frame end. -/
def drained (held : Bool) (quiet : Nat) : State :=
  let s := linked .draining .answered
  { s with fe := { s.fe with drainHeld := held, quietCount := quiet } }

/-- The capture of `capturing` at a frame end of DRAINING. -/
def drainingCapture (held : Bool) (quiet : Nat) : State := { capturing [] with fe := (drained held quiet).fe }

set_option maxRecDepth 8000 in
/-- A group delivered in DRAINING, one delivered at the frame end that enters DOWN, and the record of an overrun. -/
theorem witness_CaptureDeliversWholeGroups_drain :
    (drainingCapture true 0).fe.link = .draining ∧ (drainingCapture true 0).fe.drainFromSync = false ∧
    (drainingCapture true 0).fe.pos = .answered ∧
    (after (exec (.frameEnd []) (drainingCapture true 0))).su.streams[(0 : Fin 8)].queue = [0xFFFF] ∧
    (after (exec (.frameEnd []) (drainingCapture true 0))).su.streams[(0 : Fin 8)].live = [0] ∧
    (after (exec (.frameEnd []) (drainingCapture true 1))).su.streams[(0 : Fin 8)].queue = [0xFFFF] ∧
    (after (exec (.frameEnd []) (drainingCapture true 1))).su.streams[(0 : Fin 8)].live = [] ∧
    (after (exec (.frameEnd []) (capturing (List.replicate 8 0)))).eu.gaps =
      [{ stream := 0, kind := .overrun, frame := 0, index := 0, lanes := none }] := by decide

theorem witness_DrainCompletes :
    (drained false 0).fe.link = .draining ∧ (drained false 0).fe.pos = .answered ∧ (drained false 0).fe.drainHeld = false ∧
    (drained false 0).cx.inFlight = none ∧ (drained false 0).ce.phase = .idle ∧
    (inPhase (drained false 0) .switching).ce.phase ≠ .idle ∧ (drained true 0).fe.drainHeld = true ∧
    (drained true 0).fe.quietCount < 1 ∧ 1 ≤ (drained true 1).fe.quietCount := by decide

set_option maxRecDepth 8000 in
theorem witness_ResponseJudged :
    crc8 ((0x740000CC : BitVec 32).extractLsb' 8 24) = (0x740000CC : BitVec 32).extractLsb' 0 8 ∧
    (0x740000CC : BitVec 32).extractLsb' 26 2 = 1 ∧ (0x740000CC : BitVec 32).extractLsb' 28 4 = 7 ∧
    judge 7 none 0x7800042A = .refuse 4 ∧ judge 3 (some 0x84) 0x30008474 = .ack 0x84 ∧
    judge 3 (some 0x85) 0x30008474 = .garbled ∧ judge 3 none 0x30008474 = .ack 0x84 := by decide

set_option maxRecDepth 8000 in
/-- A PING of node 3 in frame 900, as the command and as the PING before a READ, and the READ itself: only the PINGs
compare the pattern 84h (chapter 3.10). -/
theorem witness_ResponseJudged_for :
    let s : State := { State.reset with fe := { State.reset.fe with frameNo := 900 } }
    s.judgeFor (inFlightOf .request (.node 2) .ping .command) 0x30008474 = .ack 0x84 ∧
    s.judgeFor (inFlightOf .request (.node 2) (.read 1) .resyncPing) 0x30008474 = .ack 0x84 ∧
    ({ s with fe := { s.fe with frameNo := 901 } } : State).judgeFor
      (inFlightOf .request (.node 2) .ping .command) 0x30008474 = .garbled ∧
    ({ s with fe := { s.fe with frameNo := 901 } } : State).judgeFor
      (inFlightOf .request (.node 2) (.read 1) .command) 0x30008474 = .ack 0x84 ∧
    s.judgeFor (inFlightOf .request (.node 3) (.read 1) .command) 0x30008474 = .garbled ∧
    s.judgeFor (inFlightOf .survey .unbound (.assign 2) .command) 0x30008474 = .ack 0x84 := by decide

/-- A READ of node 3 in progress after its command field, with the record changed by `f`. -/
def reading (f : InFlight → InFlight) : State :=
  flying (withEntry (linked .up .sent) 2 readyEntry) (f (inFlightOf .request (.node 2) (.read 0x20) .command))

set_option maxRecDepth 8000 in
theorem witness_AttemptGoesOn :
    (reading id).fe.running = true ∧ (reading id).fe.pos = .sent ∧
    (reading id).cx.inFlight = some (inFlightOf .request (.node 2) (.read 0x20) .command) ∧
    (let r := inFlightOf .request (.node 2) (.read 0x20) .command
     (reading id).judgeFor r 0x3400004A = .wait ∧ ({ r with waits := 15 } : InFlight).waits < 16 ∧
     (reading id).judgeFor r (BitVec.allOnes 32) = .noAnswer ∧ (reading id).nd[(2 : Fin 14)].miss + 1 < 4 ∧
     r.attempt ≤ 2 ∧ (reading id).judgeFor r 0x3400004B = .garbled) ∧
    (let r := inFlightOf .request (.node 2) (.read 0x20) .resyncPing
     (reading fun _ => r).judgeFor r 0x300000E1 = .ack 0) ∧
    (linked .up .sent).cx.inFlight = none ∧ (0x30008474 : BitVec 32) ≠ BitVec.allOnes 32 := by decide

set_option maxRecDepth 8000 in
theorem witness_CommandReachesOutcome :
    (let r := inFlightOf .request (.node 2) (.read 0x20) .command
     (reading id).judgeFor r 0x30008474 = .ack 0x84 ∧ (reading id).judgeFor r 0x380004AC = .refuse 4) ∧
    (let r : InFlight := { inFlightOf .request (.node 2) (.read 0x20) .command with waits := 16, attempt := 3 }
     (reading fun _ => r).cx.inFlight = some r ∧ (reading fun _ => r).judgeFor r 0x3400004A = .wait ∧
     (reading fun _ => r).cx.cfg.wait.toNat ≤ r.waits ∧ (reading fun _ => r).judgeFor r (BitVec.allOnes 32) = .noAnswer ∧
     (reading fun _ => r).cx.cfg.retry.toNat < r.attempt ∧ (reading fun _ => r).judgeFor r 0x3400004B = .garbled) ∧
    (let s := withEntry (reading id) 2 { readyEntry with miss := 3 }
     s.cx.cfg.loss.toNat ≤ s.nd[(2 : Fin 14)].miss + 1 ∧ s.nd[(2 : Fin 14)].state = .ready) ∧
    (withEntry (reading id) 2 { readyEntry with miss := 3, state := .lost }).nd[(2 : Fin 14)].state = .lost ∧
    (let r : InFlight := { inFlightOf .request (.node 2) (.read 0x20) .command with attempt := 3 }
     let s := withEntry (reading fun _ => r) 2 { readyEntry with miss := 3 }
     s.judgeFor r (BitVec.allOnes 32) = .noAnswer ∧ s.cx.cfg.loss.toNat ≤ s.nd[(2 : Fin 14)].miss + 1 ∧
     s.cx.cfg.retry.toNat < r.attempt ∧
     (after (exec (.retriesSpent (BitVec.allOnes 32)) s)).nd[(2 : Fin 14)].state = .lost) := by decide

theorem witness_OutcomeCompletesRequest :
    (inFlightOf .keepalive (.node 0) .ping .command).source = .keepalive ∧
    (inFlightOf .request (.node 0) .unbind .command).source = .request ∧
    (withRequest State.reset .release).rq.queue = { op := .release, addr := 0, tag := 9 } :: [] ∧
    (withRequest State.reset .release).rq.completions.length < 16 ∧
    (withRequest State.reset .park).rq.queue = { op := .park, addr := 0, tag := 9 } :: [] ∧
    (withRequest State.reset .resume).rq.queue = { op := .resume, addr := 0, tag := 9 } :: [] := by decide

theorem witness_OutcomeMovesCommit :
    (let r := inFlightOf .commit (.node 0) (.slotClear 0 .capture) .command
     r.source = .commit ∧ r.target = .node 0) ∧
    (linked .up .sent).fe.link = .up ∧ (linked .draining .sent).fe.link = .draining ∧
    (let c : StagingCmd := { slot := 0, target := 0, port := 0, dir := .capture, op := .clear }
     let s := inPhase (linked .up .sent) .staging
     ({ s with ce := { s.ce with staging := [c] } } : State).ce.staging = [c] ∧
     ({ s with ce := { s.ce with staging := [c, c] } } : State).ce.staging = c :: c :: []) := by decide

/-- An IDENTIFY or an ASSIGN of the survey in progress after its command field. -/
def electing (c : LinkCommand) (v : SurveyState) (failures : Nat) (attempt : Nat) : State :=
  let s := flying (linked .up .sent) { inFlightOf .survey .unbound c .command with attempt := attempt }
  { s with sv := { Survey.fresh with
    state := v, binding := some aBinding, result := { Survey.fresh.result with electionFailures := failures } } }

theorem witness_IdentityElects :
    (let s := electing .identify .seeking 0 1
     s.fe.link = .up ∧ s.fe.pos = .sent ∧ s.cx.inFlight = some (inFlightOf .survey .unbound .identify .command) ∧
     s.nd[(0 : Fin 14)].state = .free ∧ (∀ b : NodeAddr, s.nd[b].identity ≠ some 0x00A31003) ∧
     (withEntry s 13 { readyEntry with state := .lost }).nd[(13 : Fin 14)].identity = some 0x00A31003) ∧
    (0x00A31003 : BitVec 32) ≠ BitVec.allOnes 32 ∧
    (let s : State := { linked .up .sent with nd := Vector.replicate 14 readyEntry }
     ∀ b : NodeAddr, s.nd[b].state ≠ .free ∧ s.nd[b].identity ≠ some 0x00A2F7C0) ∧
    ({ electing .identify .seeking 0 1 with fe := (linked .draining .sent).fe } : State).fe.link = .draining := by decide

set_option maxRecDepth 8000 in
theorem witness_AssignBindsOrFails :
    (let s := electing (.assign 0) .elected 1 3
     let r : InFlight := { inFlightOf .survey .unbound (.assign 0) .command with attempt := 3 }
     s.fe.link = .up ∧ s.fe.pos = .sent ∧ s.cx.inFlight = some r ∧ s.sv.binding = some aBinding ∧
     r.cmd = .assign aBinding.target ∧ s.cx.cfg.retry.toNat < r.attempt ∧ s.sv.result.electionFailures < 2) ∧
    2 ≤ (electing (.assign 0) .elected 2 3).sv.result.electionFailures ∧
    judge (BitVec.ofNat 4 (aBinding.target.val + 1)) none 0x100000A2 = .ack 0 ∧
    judge (BitVec.ofNat 4 (aBinding.target.val + 1)) none 0x14000009 = .wait ∧
    judge (BitVec.ofNat 4 (aBinding.target.val + 1)) none 0x180004EF = .refuse 4 ∧
    judge (BitVec.ofNat 4 (aBinding.target.val + 1)) none (BitVec.allOnes 32) = .noAnswer ∧
    judge (BitVec.ofNat 4 (aBinding.target.val + 1)) none 0x14000008 = .garbled ∧
    (electing (.assign 0) .elected 0 2).cx.cfg.retry.toNat = 2 ∧ (electing (.assign 0) .elected 0 2).cx.cfg.wait.toNat = 16 ∧
    ({ electing (.assign 0) .elected 2 3 with fe := (linked .draining .sent).fe } : State).fe.link = .draining ∧
    ({ inFlightOf .survey .unbound (.assign 0) .command with waits := 15 } : InFlight).waits < 16 := by decide

theorem witness_CapabilityReadsConclude :
    (let r := inFlightOf .survey (.node 0) (.read 1) .command
     let s : State := { linked .up .answered with
       sv := { Survey.fresh with state := .binding, binding := some { aBinding with capA := some 0x188 } } }
     r.source = .survey ∧ r.target = .node aBinding.target ∧ r.cmd = .read 1 ∧
     s.sv.binding = some { aBinding with capA := some 0x188 } ∧ s.nd[(0 : Fin 14)].state ≠ .lost) ∧
    (withEntry (linked .up .answered) 0 { readyEntry with state := .lost }).nd[(0 : Fin 14)].state = .lost := by decide

theorem witness_FrameEventsKeepHostState :
    Instr.frameStart.isHostEvent = false ∧ (after (exec .frameStart (linked .up .ended))).fe.frameNo = 1 := by decide

theorem witness_GenerationCountsMapChanges :
    (after (exec .frameStart (withEntry (switching .up) 0 readyEntry))).sm.generation = 1 := by decide

theorem witness_ChangeListHeldDuringCommit :
    (let s := inPhase (linked .up .ended) .cancelling
     s.ce.phase ≠ .idle ∧ (after (exec .frameStart s)).ce.phase ≠ .idle) := by decide

/-- A state with a command waiting, at its device-reset values otherwise. -/
def waiting : State := { State.reset with pending := [.gapPop] }

theorem witness_step : ∃ t, step waiting = .next t := ⟨_, rfl⟩

theorem witness_StepKeepsListsBounded : waiting.ListsBounded :=
  ⟨by decide, by decide, by decide, by decide, by decide⟩

theorem witness_StepKeepsStreamsSound : waiting.PoolFits ∧ waiting.LinesJudged :=
  ⟨⟨by decide, by decide, by decide⟩, by unfold State.LinesJudged; decide⟩

theorem witness_StepKeepsStoppedEmpty : waiting.StoppedIsEmpty :=
  ⟨fun _ => ⟨by decide, by decide, by decide, by decide, by decide, by decide, by decide, by decide⟩, by decide⟩

theorem witness_StepKeepsMapsFit : waiting.MapsFit := by
  have none_at : ∀ k : Fin 32, waiting.sm.active[k] = none := by decide
  refine ⟨⟨?_, ?_⟩, nofun, by decide, nofun, by decide⟩
  · intro k r h
    rw [none_at k] at h
    cases h
  · intro j k r r' _ h
    rw [none_at j] at h
    cases h

theorem witness_StepKeepsIdentitiesOnce : waiting.IdentitiesHeldOnce := by
  have none_at : ∀ a : NodeAddr, waiting.nd[a].identity = none := by decide
  refine ⟨by decide, ?_, by decide, by decide, nofun⟩
  intro a b i _ h
  rw [none_at a] at h
  cases h

end Sys2Proof.Tests
end

section
/-! PROOFS. Writes to CONTROL and the action each one is taken as (R24). -/
namespace Sys2Proof.Machine

/-! ### The link actions while the part is not held -/

theorem exec_softReset_alive {s : State} (h : s.held = false) : exec .softReset s = .next s.softReset :=
  congrArg _ (State.whenAlive_alive h State.softReset)

theorem exec_linkStart_alive {s : State} (h : s.held = false) : exec .linkStart s = .next s.linkStart :=
  congrArg _ (State.whenAlive_alive h State.linkStart)

theorem exec_linkStop_alive {s : State} (h : s.held = false) : exec .linkStop s = .next s.linkStop :=
  congrArg _ (State.whenAlive_alive h State.linkStop)

theorem exec_faultClear_alive {s : State} (h : s.held = false) : exec .faultClear s = .next s.faultClear :=
  congrArg _ (State.whenAlive_alive h State.faultClear)

/-! ### The action bits of a written word -/

/-- The action field holds `a` exactly where the word's four action bits are the bits of `a`. -/
theorem controlActions_eq_iff {w : Word} {a : BitVec 4} :
    w.extractLsb' 0 4 = a ↔ w.getLsbD 0 = a.getLsbD 0 ∧ w.getLsbD 1 = a.getLsbD 1 ∧ w.getLsbD 2 = a.getLsbD 2 ∧
      w.getLsbD 3 = a.getLsbD 3 := by
  constructor
  · rintro rfl
    simp
  · rintro ⟨e0, e1, e2, e3⟩
    apply BitVec.eq_of_getLsbD_eq
    intro i hi
    have word_bit : (w.extractLsb' 0 4).getLsbD i = w.getLsbD i := by simp [hi]
    rw [word_bit]
    match i, hi with
    | 0, _ => exact e0
    | 1, _ => exact e1
    | 2, _ => exact e2
    | 3, _ => exact e3

/-- CONTROL looks at no bit of the word but the four action bits. -/
theorem State.writeControl_actions (s : State) {w : Word} {a : BitVec 4} (h : w.extractLsb' 0 4 = a) :
    s.writeControl w = s.writeControl (a.setWidth 32) := by
  obtain ⟨e0, e1, e2, e3⟩ := controlActions_eq_iff.1 h
  simp only [State.writeControl, e0, e1, e2, e3, BitVec.getLsbD_setWidth, Nat.reduceLT, decide_true, Bool.true_and]

/-- Two or more action bits set: no action is taken (R24). -/
theorem State.writeControl_several (s : State) {w : Word} (h0 : w.extractLsb' 0 4 ≠ 0) (h1 : w.extractLsb' 0 4 ≠ 1)
    (h2 : w.extractLsb' 0 4 ≠ 2) (h4 : w.extractLsb' 0 4 ≠ 4) (h8 : w.extractLsb' 0 4 ≠ 8) :
    s.writeControl w = s.accessFault .stateRefused 0x004 := by
  unfold State.writeControl
  split
  next e0 e1 e2 e3 => exact absurd (controlActions_eq_iff.2 ⟨e0, e1, e2, e3⟩) h0
  next e0 e1 e2 e3 => exact absurd (controlActions_eq_iff.2 ⟨e0, e1, e2, e3⟩) h1
  next e0 e1 e2 e3 => exact absurd (controlActions_eq_iff.2 ⟨e0, e1, e2, e3⟩) h2
  next e0 e1 e2 e3 => exact absurd (controlActions_eq_iff.2 ⟨e0, e1, e2, e3⟩) h4
  next e0 e1 e2 e3 => exact absurd (controlActions_eq_iff.2 ⟨e0, e1, e2, e3⟩) h8
  next => rfl

/-! ### The register at 004h -/

theorem decodeOffset_control : decodeOffset 0x004 = some .control := by decide

/-- A whole-word write at 004h is CONTROL's write. -/
theorem exec_write_control {s : State} (h : s.held = false) (w : Word) :
    exec (.registerWrite 0x004 w 15) s = .next (s.writeControl w) :=
  exec_registerWrite_all h decodeOffset_control w

/-- A whole-word write at 004h whose action field is `a`. -/
theorem exec_write_control_actions {s : State} (h : s.held = false) {w : Word} {a : BitVec 4}
    (e : w.extractLsb' 0 4 = a) :
    exec (.registerWrite 0x004 w 15) s = .next (s.writeControl (a.setWidth 32)) := by
  rw [exec_write_control h, s.writeControl_actions e]

/-- Settles O5: the write depends on the action field alone; each value of the field that is one action or none picks its
case of R24, and the values left over hold two bits or more. -/
theorem controlTakesOneAction : Obligations.ControlTakesOneAction := by
  intro s w alive
  refine ⟨fun softReset => ?_, fun linkStart => ?_, fun linkStop => ?_, fun faultClear => ?_, fun noAction => ?_,
    fun h0 h1 h2 h4 h8 => ?_, ?_⟩
  · rw [exec_write_control_actions alive softReset, exec_softReset_alive alive]
    rfl
  · rw [exec_write_control_actions alive linkStart, exec_linkStart_alive alive]
    rfl
  · rw [exec_write_control_actions alive linkStop, exec_linkStop_alive alive]
    rfl
  · rw [exec_write_control_actions alive faultClear, exec_faultClear_alive alive]
    rfl
  · rw [exec_write_control_actions alive noAction]
    rfl
  · rw [exec_write_control alive, s.writeControl_several h0 h1 h2 h4 h8]
  · rw [State.windowRead_alive alive decodeOffset_control]
    rfl

end Sys2Proof.Machine
end

section
/-! PROOFS. The host's write to SURVEY (R69). -/
namespace Sys2Proof.Machine

theorem exec_surveyStart_alive {s : State} (h : s.held = false) : exec .surveyStart s = .next s.surveyStart :=
  congrArg _ (State.whenAlive_alive h State.surveyStart)

theorem State.surveyStart_accepted {s : State} (up : s.fe.link = .up) (notRunning : s.sv.state.isRunning = false) :
    s.surveyStart = s.setSv { s.sv with state := .seeking, result := SurveyResult.started } :=
  if_pos ⟨up, notRunning⟩

theorem State.surveyStart_refused {s : State} (h : s.fe.link ≠ .up ∨ s.sv.state.isRunning = true) :
    s.surveyStart = s.accessFault .stateRefused 0x020 := by
  refine if_neg fun accepted => ?_
  rcases h with notUp | running
  · exact notUp accepted.1
  · rw [accepted.2] at running
    cases running

/-- A survey runs in SEEKING, ELECTED and BINDING, and in no other state (R68). -/
theorem SurveyState.isRunning_iff {st : SurveyState} :
    st.isRunning = true ↔ st = .seeking ∨ st = .elected ∨ st = .binding := by
  cases st <;> simp [SurveyState.isRunning]

theorem SurveyState.not_isRunning_iff {st : SurveyState} : st.isRunning = false ↔ st = .idle ∨ st = .finished := by
  cases st <;> simp [SurveyState.isRunning]

theorem decodeOffset_survey : decodeOffset 0x020 = some .survey := by decide

/-- A whole-word write at 020h is SURVEY's write. -/
theorem exec_write_survey {s : State} (h : s.held = false) (w : Word) :
    exec (.registerWrite 0x020 w 15) s = .next (s.writeSurvey w) :=
  exec_registerWrite_all h decodeOffset_survey w

theorem State.writeSurvey_start (s : State) {w : Word} (h : w.getLsbD 0 = true) : s.writeSurvey w = s.surveyStart :=
  if_pos h

theorem State.writeSurvey_idle (s : State) {w : Word} (h : w.getLsbD 0 = false) : s.writeSurvey w = s :=
  if_neg (by rw [h]; nofun)

/-- Settles O19: the write at 020h depends on the start bit alone, and a start on the link state and on whether a survey
runs. -/
theorem surveyStartJudged : Obligations.SurveyStartJudged := by
  intro s alive
  refine ⟨fun up state => ?_, fun refused => ?_, fun w start => ?_, fun w noStart => ?_, ?_⟩
  · rw [exec_surveyStart_alive alive, State.surveyStart_accepted up (SurveyState.not_isRunning_iff.2 state)]
    rfl
  · rw [exec_surveyStart_alive alive, State.surveyStart_refused (refused.imp_right SurveyState.isRunning_iff.2)]
  · rw [exec_write_survey alive, s.writeSurvey_start start, exec_surveyStart_alive alive]
  · rw [exec_write_survey alive, s.writeSurvey_idle noStart]
  · rw [State.windowRead_alive alive decodeOffset_survey]
    rfl

end Sys2Proof.Machine
end

section
/-! PROOFS. Identities are held once: what the directory, the survey and its command in progress owe each other, and that
every command keeps it (R56, R66, R70 to R76). -/
namespace Sys2Proof.Machine

/-! ### One entry after another -/

/-- `e'` may stand in the place of `e`: it holds no identity that `e` does not hold, and it is FREE with an identity, or
BOUND, only where `e` is. -/
structure Entry.AddsNothing (e e' : Entry) : Prop where
  identity : ∀ id, e'.identity = some id → e.identity = some id
  free : e'.state = .free → e.state = .free ∨ e'.identity = none
  bound : e'.state = .bound → e.state = .bound

theorem Entry.AddsNothing.of_same {e e' : Entry} (identity : e'.identity = e.identity) (state : e'.state = e.state) :
    e.AddsNothing e' :=
  ⟨fun _ hid => identity ▸ hid, fun hf => .inl (state ▸ hf), fun hb => state ▸ hb⟩

theorem Entry.AddsNothing.refl (e : Entry) : e.AddsNothing e := .of_same rfl rfl

theorem Entry.AddsNothing.freeEntry (e : Entry) : e.AddsNothing Entry.freeEntry := ⟨nofun, fun _ => .inr rfl, nofun⟩

theorem Entry.AddsNothing.moved {e e' : Entry} (identity : e'.identity = e.identity) (notFree : e'.state ≠ .free)
    (notBound : e'.state ≠ .bound) : e.AddsNothing e' :=
  ⟨fun _ hid => identity ▸ hid, fun hf => absurd hf notFree, fun hb => absurd hb notBound⟩

/-- The exchange changes neither the identity nor the state of an entry at response arrival (R41). -/
theorem Entry.AddsNothing.afterResponse (e : Entry) (j : Judgement) (isPing : Bool) (f : FrameNo) (loss : BitVec 4) :
    e.AddsNothing (e.afterResponse j isPing f loss) := by
  cases j with
  | ack d => cases isPing <;> exact .of_same rfl rfl
  | refuse d => exact .of_same rfl rfl
  | wait => exact .of_same rfl rfl
  | noAnswer => exact .of_same rfl rfl
  | garbled => exact .refl e

theorem addsNothing_upd {nd : Directory} {a : NodeAddr} {e : Entry} (h : nd[a].AddsNothing e) (b : NodeAddr) :
    nd[b].AddsNothing (upd nd a e)[b] := by
  rw [upd_get]
  split
  next ab => exact ab ▸ h
  next => exact .refl _

theorem allFree_get (a : NodeAddr) : Directory.allFree[a] = Entry.freeEntry := by
  simp [Directory.allFree]

/-! ### The survey's command -/

/-- Whether a command is the one the survey's state names depends on the command and its target alone. -/
theorem Survey.commandMatches_congr (sv : Survey) {r r' : InFlight} (cmd : r'.cmd = r.cmd)
    (target : r'.target = r.target) : sv.commandMatches r' ↔ sv.commandMatches r := by
  unfold Survey.commandMatches
  rw [cmd, target]

theorem Survey.commandMatches_of_identify {sv : Survey} {r : InFlight} (h : sv.commandMatches r)
    (cmd : r.cmd = .identify) : sv.state = .seeking := by
  unfold Survey.commandMatches at h
  rwa [cmd] at h

theorem Survey.commandMatches_of_assign {sv : Survey} {r : InFlight} {a : NodeAddr} (h : sv.commandMatches r)
    (cmd : r.cmd = .assign a) : sv.state = .elected := by
  unfold Survey.commandMatches at h
  rwa [cmd] at h

theorem Survey.commandMatches_of_read {sv : Survey} {r : InFlight} {reg : BitVec 8} (h : sv.commandMatches r)
    (cmd : r.cmd = .read reg) : sv.state = .binding ∧ ∃ b, sv.binding = some b ∧ r.target = .node b.target := by
  unfold Survey.commandMatches at h
  rwa [cmd] at h

/-- A survey that a command in progress matches is running (R68, R70). -/
theorem Survey.isRunning_of_commandMatches {sv : Survey} {r : InFlight} (h : sv.commandMatches r) :
    sv.state.isRunning = true := by
  unfold Survey.commandMatches at h
  split at h
  next => rw [h]; rfl
  next => rw [h]; rfl
  next => rw [h.1]; rfl

/-- The survey asks for the command its state names (R70). -/
theorem Survey.commandMatches_nextCommand {sv : Survey} {r : InFlight}
    (h : sv.nextCommand = some (r.target, r.cmd)) : sv.commandMatches r := by
  obtain ⟨src, target, cmd, stage, attempt, waits⟩ := r
  unfold Survey.nextCommand at h
  split at h
  next _ seeking =>
    cases h
    exact seeking
  next elected _ =>
    cases h
    exact elected
  next b binding bound =>
    split at h <;> (cases h; exact ⟨binding, b, bound, rfl⟩)
  next => cases h

/-! ### The invariant carried from one state to the next -/

variable {s t : State}

/-- Only a survey in BINDING has a BOUND entry (R75). -/
theorem State.IdentitiesHeldOnce.unbound (h : s.IdentitiesHeldOnce) (notBinding : s.sv.state ≠ .binding)
    (a : NodeAddr) : s.nd[a].state ≠ .bound :=
  fun hb => notBinding (h.bound a hb).1

/-- With entries that add nothing, what is left to show is what the survey owes. -/
theorem State.IdentitiesHeldOnce.of_addsNothing (h : s.IdentitiesHeldOnce)
    (entries : ∀ a : NodeAddr, s.nd[a].AddsNothing t.nd[a])
    (bound : ∀ a : NodeAddr, t.nd[a].state = .bound → t.sv.state = .binding ∧ ∃ b, t.sv.binding = some b ∧ b.target = a)
    (elected : t.sv.state = .elected →
      ∃ b, t.sv.binding = some b ∧ ∀ a : NodeAddr, a ≠ b.target → t.nd[a].identity ≠ some b.identity)
    (command : ∀ r, t.cx.inFlight = some r → r.source = .survey ∨ r.cmd = .identify → t.sv.commandMatches r) :
    t.IdentitiesHeldOnce where
  free a hf := by
    rcases (entries a).free hf with wasFree | none
    · cases e : t.nd[a].identity with
      | none => rfl
      | some id =>
        have held := (entries a).identity id e
        rw [h.free a wasFree] at held
        cases held
    · exact none
  once a b id ab ha hb := h.once a b id ab ((entries a).identity id ha) ((entries b).identity id hb)
  bound := bound
  elected := elected
  command := command

/-- A change of entries that adds nothing, under the same survey. -/
theorem State.IdentitiesHeldOnce.of_sameSurvey (h : s.IdentitiesHeldOnce)
    (entries : ∀ a : NodeAddr, s.nd[a].AddsNothing t.nd[a]) (survey : t.sv = s.sv)
    (command : ∀ r, t.cx.inFlight = some r → r.source = .survey ∨ r.cmd = .identify → s.sv.commandMatches r) :
    t.IdentitiesHeldOnce := by
  refine h.of_addsNothing entries ?_ ?_ ?_
  · intro a hb
    rw [survey]
    exact h.bound a ((entries a).bound hb)
  · intro he
    rw [survey] at he ⊢
    obtain ⟨b, hb, unheld⟩ := h.elected he
    exact ⟨b, hb, fun a ha hid => unheld a ha ((entries a).identity _ hid)⟩
  · rw [survey]
    exact command

/-- The survey in any state but ELECTED, with no entry BOUND. -/
theorem State.IdentitiesHeldOnce.of_noBound (h : s.IdentitiesHeldOnce)
    (entries : ∀ a : NodeAddr, s.nd[a].AddsNothing t.nd[a]) (noBound : ∀ a : NodeAddr, t.nd[a].state ≠ .bound)
    (notElected : t.sv.state ≠ .elected)
    (command : ∀ r, t.cx.inFlight = some r → r.source = .survey ∨ r.cmd = .identify → t.sv.commandMatches r) :
    t.IdentitiesHeldOnce :=
  h.of_addsNothing entries (fun a hb => absurd hb (noBound a)) (fun he => absurd he notElected) command

/-- An empty directory with no identity elected and no command in progress. -/
theorem State.identitiesHeldOnce_of_allFree (nd : t.nd = Directory.allFree) (notElected : t.sv.state ≠ .elected)
    (noCommand : t.cx.inFlight = none) : t.IdentitiesHeldOnce where
  free a _ := by rw [nd, allFree_get]; rfl
  once a b id _ ha := by rw [nd, allFree_get] at ha; cases ha
  bound a hb := by rw [nd, allFree_get] at hb; cases hb
  elected he := absurd he notElected
  command r hr := by rw [noCommand] at hr; cases hr

/-- `t` has the directory, the survey and the command in progress of `s`: all that the invariant looks at. -/
structure State.SameDirectory (s t : State) : Prop where
  nd : t.nd = s.nd
  sv : t.sv = s.sv
  inFlight : t.cx.inFlight = s.cx.inFlight

theorem State.SameDirectory.refl (s : State) : s.SameDirectory s := ⟨rfl, rfl, rfl⟩

theorem State.SameDirectory.trans {s t u : State} (st : s.SameDirectory t) (tu : t.SameDirectory u) :
    s.SameDirectory u :=
  ⟨tu.nd.trans st.nd, tu.sv.trans st.sv, tu.inFlight.trans st.inFlight⟩

theorem State.IdentitiesHeldOnce.of_same (h : s.IdentitiesHeldOnce) (same : s.SameDirectory t) :
    t.IdentitiesHeldOnce :=
  h.of_sameSurvey (fun a => by rw [same.nd]; exact .refl _) same.sv fun r hr => h.command r (same.inFlight ▸ hr)

/-- One entry replaced by one that adds nothing. -/
theorem State.IdentitiesHeldOnce.setEntry (h : s.IdentitiesHeldOnce) {a : NodeAddr} {e : Entry}
    (entry : s.nd[a].AddsNothing e) : (s.setEntry a e).IdentitiesHeldOnce :=
  h.of_sameSurvey (addsNothing_upd entry) rfl h.command

/-- One entry moved to a state that is neither FREE nor BOUND. -/
theorem State.IdentitiesHeldOnce.setEntryState (h : s.IdentitiesHeldOnce) (a : NodeAddr) {st : EntryState}
    (notFree : st ≠ .free) (notBound : st ≠ .bound) : (s.setEntryState a st).IdentitiesHeldOnce :=
  h.setEntry (.moved rfl notFree notBound)

theorem State.IdentitiesHeldOnce.freeEntry (h : s.IdentitiesHeldOnce) (a : NodeAddr) :
    (s.freeEntry a).IdentitiesHeldOnce :=
  h.setEntry (.freeEntry _)

theorem State.IdentitiesHeldOnce.noInFlight (h : s.IdentitiesHeldOnce) :
    (s.setCx { s.cx with inFlight := none }).IdentitiesHeldOnce :=
  h.of_sameSurvey (fun _ => .refl _) rfl nofun

/-- The command in progress replaced by one of the same source, kind and target. -/
theorem State.IdentitiesHeldOnce.setInFlight (h : s.IdentitiesHeldOnce) {r r' : InFlight}
    (inFlight : s.cx.inFlight = some r) (source : r'.source = r.source) (cmd : r'.cmd = r.cmd)
    (target : r'.target = r.target) : (s.setInFlight r').IdentitiesHeldOnce := by
  refine h.of_sameSurvey (fun _ => .refl _) rfl ?_
  intro q hq ofSurvey
  cases hq
  rw [source, cmd] at ofSurvey
  exact (s.sv.commandMatches_congr cmd target).2 (h.command r inFlight ofSurvey)

/-! ### The operations that touch neither the directory nor the survey -/

theorem State.sameDirectory_recordGap (s : State) (g : GapRecord) : s.SameDirectory (s.recordGap g) :=
  ⟨s.recordGap_nd g, s.recordGap_sv g, by rw [s.recordGap_cx g]⟩

theorem State.sameDirectory_stopCommit (s : State) : s.SameDirectory s.stopCommit := by
  unfold State.stopCommit
  split
  case h_2 => split <;> exact ⟨rfl, rfl, rfl⟩
  all_goals exact ⟨rfl, rfl, rfl⟩

theorem State.sameDirectory_beginDrain (s : State) (fromSync : Bool) : s.SameDirectory (s.beginDrain fromSync) :=
  ⟨rfl, rfl, rfl⟩

theorem State.sameDirectory_linkStop (s : State) : s.SameDirectory s.linkStop := by
  unfold State.linkStop
  split
  · exact (s.sameDirectory_beginDrain true).trans (s.beginDrain true).sameDirectory_stopCommit
  · exact (s.sameDirectory_beginDrain false).trans (s.beginDrain false).sameDirectory_stopCommit
  · exact .refl s
  · exact ⟨rfl, rfl, rfl⟩
  · exact ⟨rfl, rfl, rfl⟩

theorem State.sameDirectory_linkStart (s : State) : s.SameDirectory s.linkStart := by
  unfold State.linkStart
  split <;> exact ⟨rfl, rfl, rfl⟩

theorem State.sameDirectory_writeLinkCfg (s : State) (w : Word) : s.SameDirectory (s.writeLinkCfg w) := by
  unfold State.writeLinkCfg
  split
  · split <;> exact ⟨rfl, rfl, rfl⟩
  · exact ⟨rfl, rfl, rfl⟩

theorem State.sameDirectory_writeXchgCfg (s : State) (w : Word) : s.SameDirectory (s.writeXchgCfg w) := by
  unfold State.writeXchgCfg
  split
  · split <;> exact ⟨rfl, rfl, rfl⟩
  · exact ⟨rfl, rfl, rfl⟩

theorem State.sameDirectory_writeCommit (s : State) (m : Option CommitMode) : s.SameDirectory (s.writeCommit m) := by
  unfold State.writeCommit
  split
  · exact ⟨rfl, rfl, rfl⟩
  · split
    · exact ⟨rfl, rfl, rfl⟩
    · split
      · exact ⟨rfl, rfl, rfl⟩
      · unfold State.commitApply
        split <;> exact ⟨rfl, rfl, rfl⟩

theorem State.sameDirectory_popGap (s : State) : s.SameDirectory s.popGap := by
  unfold State.popGap
  split <;> exact ⟨rfl, rfl, rfl⟩

theorem State.sameDirectory_appendChange (s : State) : s.SameDirectory s.appendChange := by
  unfold State.appendChange
  split
  · exact ⟨rfl, rfl, rfl⟩
  · split
    · exact ⟨rfl, rfl, rfl⟩
    · split <;> exact ⟨rfl, rfl, rfl⟩

theorem State.sameDirectory_clearChanges (s : State) : s.SameDirectory s.clearChanges := by
  unfold State.clearChanges
  split <;> exact ⟨rfl, rfl, rfl⟩

theorem State.sameDirectory_submitRequest (s : State) : s.SameDirectory s.submitRequest := by
  unfold State.submitRequest
  split
  · exact ⟨rfl, rfl, rfl⟩
  · split <;> exact ⟨rfl, rfl, rfl⟩

theorem State.sameDirectory_popCompletion (s : State) : s.SameDirectory s.popCompletion := by
  unfold State.popCompletion
  split <;> exact ⟨rfl, rfl, rfl⟩

theorem State.sameDirectory_writeStreamCfg (s : State) (n : Fin 8) (w : Word) :
    s.SameDirectory (s.writeStreamCfg n w) := by
  unfold State.writeStreamCfg
  split
  · exact ⟨rfl, rfl, rfl⟩
  · split
    · exact ⟨rfl, rfl, rfl⟩
    · split <;> exact ⟨rfl, rfl, rfl⟩

theorem State.sameDirectory_setStream (s : State) (n : Fin 8) (st : Stream) : s.SameDirectory (s.setStream n st) :=
  ⟨rfl, rfl, rfl⟩

theorem State.sameDirectory_enableStream (s : State) (n : Fin 8) : s.SameDirectory (s.enableStream n) := by
  unfold State.enableStream
  split
  · exact .refl s
  · split
    · exact ⟨rfl, rfl, rfl⟩
    · exact (s.sameDirectory_setStream n _).trans (State.sameDirectory_recordGap _ _)

theorem State.sameDirectory_writeStreamCtrl (s : State) (n : Fin 8) (enable disable dma : Bool) :
    s.SameDirectory (s.writeStreamCtrl n enable disable dma) := by
  unfold State.writeStreamCtrl
  split
  · exact ⟨rfl, rfl, rfl⟩
  · exact (s.sameDirectory_setStream n _).trans ((s.setDma n dma).sameDirectory_enableStream n)
  · exact ⟨rfl, rfl, rfl⟩
  · exact ⟨rfl, rfl, rfl⟩

theorem State.sameDirectory_readPort (s : State) (n : Fin 8) : s.SameDirectory (s.readPort n) := by
  unfold State.readPort
  split
  · exact ⟨rfl, rfl, rfl⟩
  · split
    · exact ⟨rfl, rfl, rfl⟩
    · split
      split <;> exact ⟨rfl, rfl, rfl⟩

theorem State.sameDirectory_writePort (s : State) (n : Fin 8) (w : Word) : s.SameDirectory (s.writePort n w) := by
  unfold State.writePort
  split
  · exact ⟨rfl, rfl, rfl⟩
  · split
    · exact ⟨rfl, rfl, rfl⟩
    · split
      split <;> exact ⟨rfl, rfl, rfl⟩

theorem State.sameDirectory_placeField (s : State) : s.SameDirectory s.placeField := by
  refine ⟨s.placeField_nd, s.placeField_sv, ?_⟩
  unfold State.placeField
  split
  · simp [State.writeField]
  · rfl

/-! ### The link-down clear and the device reset -/

theorem State.identitiesHeldOnce_deviceReset (s : State) : s.deviceReset.IdentitiesHeldOnce :=
  identitiesHeldOnce_of_allFree rfl nofun rfl

/-- No survey runs once it has been stopped (R34). -/
theorem State.stopSurvey_not_running (s : State) : s.stopSurvey.sv.state.isRunning = false := by
  unfold State.stopSurvey
  split
  next => rfl
  next stopped => exact Bool.eq_false_of_not_eq_true stopped

theorem State.identitiesHeldOnce_linkDownClear (s : State) : s.linkDownClear.IdentitiesHeldOnce := by
  refine identitiesHeldOnce_of_allFree rfl ?_ rfl
  intro elected
  have stopped : s.linkDownClear.sv.state.isRunning = false := s.stopSurvey_not_running
  rw [elected] at stopped
  cases stopped

theorem State.identitiesHeldOnce_enterDown (s : State) : s.enterDown.IdentitiesHeldOnce :=
  s.identitiesHeldOnce_linkDownClear.of_same ⟨rfl, rfl, rfl⟩

theorem State.identitiesHeldOnce_enterFault (s : State) : s.enterFault.IdentitiesHeldOnce :=
  s.failInFlightRequest.failCommit.identitiesHeldOnce_linkDownClear.of_same ⟨rfl, rfl, rfl⟩

theorem State.IdentitiesHeldOnce.faultClear (h : s.IdentitiesHeldOnce) : s.faultClear.IdentitiesHeldOnce := by
  unfold State.faultClear
  split
  · exact s.identitiesHeldOnce_enterDown
  · exact h

theorem State.IdentitiesHeldOnce.contention (h : s.IdentitiesHeldOnce) : s.contention.IdentitiesHeldOnce := by
  unfold State.contention
  split
  · exact State.identitiesHeldOnce_enterFault _
  · exact h.of_same ⟨rfl, rfl, rfl⟩

/-! ### A survey started -/

/-- A survey starts where none runs: no entry is BOUND, and no command of a survey is in progress (R69). -/
theorem State.IdentitiesHeldOnce.surveyStart (h : s.IdentitiesHeldOnce) : s.surveyStart.IdentitiesHeldOnce := by
  unfold State.surveyStart
  split
  next accepted =>
    have notRunning : s.sv.state.isRunning = false := accepted.2
    refine h.of_noBound (fun _ => .refl _) (h.unbound fun e => ?_) nofun ?_
    · rw [e] at notRunning
      cases notRunning
    · intro r inFlight ofSurvey
      have running := Survey.isRunning_of_commandMatches (h.command r inFlight ofSurvey)
      rw [notRunning] at running
      cases running
  next => exact h.of_same ⟨rfl, rfl, rfl⟩

/-! ### The command field granted -/

/-- A grant to another source than the survey, for another command than IDENTIFY. -/
theorem State.IdentitiesHeldOnce.grant (h : s.IdentitiesHeldOnce) {src : Source} {c : LinkCommand}
    (notSurvey : src ≠ .survey) (notIdentify : c ≠ .identify) (target : Target) :
    (s.grant src target c).IdentitiesHeldOnce := by
  refine h.of_sameSurvey (fun _ => .refl _) rfl ?_
  intro r hr ofSurvey
  cases hr
  rcases ofSurvey with e | e
  · exact absurd e notSurvey
  · exact absurd e notIdentify

theorem StagingCmd.linkCommand_ne_identify (c : StagingCmd) : c.linkCommand ≠ .identify := by
  unfold StagingCmd.linkCommand
  split <;> nofun

theorem State.IdentitiesHeldOnce.grantStaging (h : s.IdentitiesHeldOnce) : s.grantStaging.IdentitiesHeldOnce := by
  unfold State.grantStaging
  split
  · exact h
  next c _ _ => exact h.grant (src := .commit) nofun c.linkCommand_ne_identify _

theorem State.IdentitiesHeldOnce.grantCopy (h : s.IdentitiesHeldOnce) {c : LinkCommand} (notIdentify : c ≠ .identify) :
    (s.grantCopy c).IdentitiesHeldOnce := by
  unfold State.grantCopy
  split
  · exact h.grant (src := .commit) nofun notIdentify _
  · exact h

theorem State.IdentitiesHeldOnce.validatePending (h : s.IdentitiesHeldOnce) : s.validatePending.IdentitiesHeldOnce := by
  unfold State.validatePending
  split
  next final _ =>
    have staged : (s.beginStaging final).IdentitiesHeldOnce := h.of_same ⟨rfl, rfl, rfl⟩
    exact staged.grantStaging
  all_goals exact h.of_same ⟨rfl, rfl, rfl⟩

theorem State.IdentitiesHeldOnce.offerCommit (h : s.IdentitiesHeldOnce) : s.offerCommit.IdentitiesHeldOnce := by
  unfold State.offerCommit
  split
  · exact h
  · split
    · exact h.validatePending
    · exact h
  · split
    · exact h.grantStaging
    · exact h
  · exact h.grantCopy (c := .switch) nofun
  · exact h.grantCopy (c := .cancel) nofun

/-- The survey takes the field for the command its state names. -/
theorem State.IdentitiesHeldOnce.offerSurvey (h : s.IdentitiesHeldOnce) : s.offerSurvey.IdentitiesHeldOnce := by
  unfold State.offerSurvey
  split
  · split
    next target c next =>
      refine h.of_sameSurvey (fun _ => .refl _) rfl ?_
      intro r hr _
      cases hr
      exact Survey.commandMatches_nextCommand next
    next => exact h
  · exact h

theorem sentIfPresent_ne_identify (st : EntryState) {c : LinkCommand} (notIdentify : c ≠ .identify) :
    sentIfPresent st c ≠ .sent .identify := by
  unfold sentIfPresent
  split
  · exact fun e => notIdentify (IssueResult.sent.inj e)
  · nofun

/-- No request sends an IDENTIFY (R146). -/
theorem issueCheck_ne_identify (op : ReqOp) (e : Entry) : issueCheck op e ≠ .sent .identify := by
  cases op with
  | nodeRead reg => exact sentIfPresent_ne_identify e.state nofun
  | nodeWrite reg data =>
    dsimp only [issueCheck]
    split
    · nofun
    · exact sentIfPresent_ne_identify e.state nofun
  | ping => exact sentIfPresent_ne_identify e.state nofun
  | park =>
    dsimp only [issueCheck]
    split
    · split <;> nofun
    · nofun
    · nofun
  | resume =>
    dsimp only [issueCheck]
    split <;> nofun
  | release =>
    dsimp only [issueCheck]
    split <;> nofun

theorem State.IdentitiesHeldOnce.settle (h : s.IdentitiesHeldOnce) (q : Request) (o : CplOutcome) (frees : Bool) :
    (s.settle q o frees).IdentitiesHeldOnce := by
  unfold State.settle
  split
  · exact (h.freeEntry q.addr).of_same ⟨rfl, rfl, rfl⟩
  · exact h.of_same ⟨rfl, rfl, rfl⟩

theorem State.IdentitiesHeldOnce.issueRequests (fuel : Nat) {s : State} (h : s.IdentitiesHeldOnce) :
    (State.issueRequests fuel s).IdentitiesHeldOnce := by
  induction fuel generalizing s with
  | zero => exact h
  | succ fuel ih =>
    unfold State.issueRequests
    split
    · exact h
    · split
      · exact h
      next q _ _ =>
        split
        next o frees _ => exact ih (h.settle q o frees)
        next c sent =>
          refine h.grant (src := .request) nofun ?_ _
          rintro rfl
          exact issueCheck_ne_identify _ _ sent

theorem State.IdentitiesHeldOnce.offerRequests (h : s.IdentitiesHeldOnce) : s.offerRequests.IdentitiesHeldOnce := by
  unfold State.offerRequests
  split
  · exact h.issueRequests _
  · exact h

theorem State.IdentitiesHeldOnce.offerKeepalive (h : s.IdentitiesHeldOnce) : s.offerKeepalive.IdentitiesHeldOnce := by
  unfold State.offerKeepalive
  split
  · split
    next a _ =>
      have scanned : (s.setCx { s.cx with scan := a.val + 1 }).IdentitiesHeldOnce := h.of_same ⟨rfl, rfl, rfl⟩
      exact scanned.grant (src := .keepalive) (c := .ping) nofun nofun _
    next => exact h
  · exact h

theorem State.IdentitiesHeldOnce.offerTo (h : s.IdentitiesHeldOnce) {f : State → State}
    (taken : (f s).IdentitiesHeldOnce) : (s.offerTo f).IdentitiesHeldOnce := by
  unfold State.offerTo
  split
  · exact h
  · exact taken

theorem State.IdentitiesHeldOnce.settleField (h : s.IdentitiesHeldOnce) : s.settleField.IdentitiesHeldOnce := by
  have afterCommit := h.offerTo h.offerCommit
  have afterSurvey := afterCommit.offerTo afterCommit.offerSurvey
  have afterRequests := afterSurvey.offerTo afterSurvey.offerRequests
  exact afterRequests.offerTo afterRequests.offerKeepalive

/-! ### A frame's start and end -/

theorem State.IdentitiesHeldOnce.workFrame (h : s.IdentitiesHeldOnce) : s.workFrame.IdentitiesHeldOnce := by
  have formed : s.formMap.IdentitiesHeldOnce := h.of_same ⟨s.formMap_nd, s.formMap_sv, by rw [s.formMap_cx]⟩
  unfold State.workFrame
  dsimp only
  split
  · exact (formed.of_same ⟨State.startStreams_nd _, State.startStreams_sv _, by rw [State.startStreams_cx]⟩).settleField
  · exact formed.settleField

theorem State.IdentitiesHeldOnce.startFrame (h : s.IdentitiesHeldOnce) : s.startFrame.IdentitiesHeldOnce := by
  have next : s.nextFrame.IdentitiesHeldOnce := h.of_same ⟨rfl, rfl, rfl⟩
  have synced : s.nextFrame.countSync.IdentitiesHeldOnce :=
    next.of_same ⟨State.countSync_nd _, State.countSync_sv _, by rw [State.countSync_cx]⟩
  unfold State.startFrame
  dsimp only
  split
  · split
    · exact synced.workFrame
    · exact synced
  · exact next.workFrame
  · exact next.workFrame
  · exact h
  · exact h

theorem State.IdentitiesHeldOnce.concludeBroadcast (h : s.IdentitiesHeldOnce) :
    s.concludeBroadcast.IdentitiesHeldOnce := by
  unfold State.concludeBroadcast
  split
  · split
    · exact h.noInFlight.of_same ⟨State.countCopy_nd _, State.countCopy_sv _, by rw [State.countCopy_cx]⟩
    · exact h
    · exact h
  · exact h

theorem State.IdentitiesHeldOnce.fieldSent (h : s.IdentitiesHeldOnce) : s.fieldSent.IdentitiesHeldOnce := by
  unfold State.fieldSent
  split
  · exact (h.of_same s.sameDirectory_placeField).concludeBroadcast.of_same ⟨rfl, rfl, rfl⟩
  · exact h

theorem State.IdentitiesHeldOnce.drainStep (h : s.IdentitiesHeldOnce) : s.drainStep.IdentitiesHeldOnce := by
  unfold State.drainStep
  split
  · split
    · exact s.identitiesHeldOnce_enterDown
    · exact h.of_same ⟨rfl, rfl, rfl⟩
  · split
    · exact h.of_same ⟨rfl, rfl, rfl⟩
    · exact h

theorem State.IdentitiesHeldOnce.endStreams (h : s.IdentitiesHeldOnce) (p : List Bool) :
    (s.endStreams p).IdentitiesHeldOnce :=
  h.of_same ⟨s.endStreams_nd p, s.endStreams_sv p, by rw [s.endStreams_cx]⟩

theorem State.IdentitiesHeldOnce.endFrame (h : s.IdentitiesHeldOnce) (p : List Bool) :
    (s.endFrame p).IdentitiesHeldOnce := by
  have ended : (s.fieldSent.setFe { s.fieldSent.fe with pos := .ended }).IdentitiesHeldOnce :=
    h.fieldSent.of_same ⟨rfl, rfl, rfl⟩
  unfold State.endFrame
  extract_lets _ _ _ served
  have delivered : served.IdentitiesHeldOnce := by
    unfold served
    split
    · exact ended.endStreams p
    · exact ended
  split
  · exact delivered.drainStep
  · exact delivered

/-! ### Outcomes of the survey's commands -/

/-- A survey that was not in BINDING ends, or goes on in SEEKING, with no entry BOUND (R75, R76). -/
theorem State.IdentitiesHeldOnce.surveyWouldEnd (h : s.IdentitiesHeldOnce) (noCommand : s.cx.inFlight = none)
    (notBinding : s.sv.state ≠ .binding) (o : SurveyOutcome) : (s.surveyWouldEnd o).IdentitiesHeldOnce := by
  refine h.of_noBound (fun a => ?_) (fun a => ?_) ?_ ?_
  · rw [State.surveyWouldEnd_nd]
    exact .refl _
  · rw [State.surveyWouldEnd_nd]
    exact h.unbound notBinding a
  · unfold State.surveyWouldEnd
    split <;> nofun
  · rw [State.surveyWouldEnd_cx, noCommand]
    nofun

/-- An entry that holds an identity is one the identity rejoins, where no entry is BOUND (R56, R72). -/
theorem State.IdentitiesHeldOnce.rejoins (h : s.IdentitiesHeldOnce) (notBinding : s.sv.state ≠ .binding) {a : NodeAddr}
    {id : Identity} (held : s.nd[a].identity = some id) : (s.entry a).rejoins id = true := by
  have holds : (s.entry a).identity = some id := held
  unfold Entry.rejoins
  rw [holds]
  cases e : (s.entry a).state with
  | free =>
    have absent := h.free a e
    rw [held] at absent
    cases absent
  | bound => exact absurd e (h.unbound notBinding a)
  | ready => simp
  | parked => simp
  | lost => simp

/-- No entry but the chosen one holds the elected identity: a rejoin is bound where it stands, and a new identity stands
nowhere (R72). -/
theorem State.IdentitiesHeldOnce.chooseBinding (h : s.IdentitiesHeldOnce) (notBinding : s.sv.state ≠ .binding)
    {id : Identity} {b : Binding} (chosen : s.chooseBinding id = some b) (a : NodeAddr) (other : a ≠ b.target) :
    s.nd[a].identity ≠ some b.identity := by
  unfold State.chooseBinding at chosen
  split at chosen
  next c found =>
    cases chosen
    have rejoins : (s.entry c).rejoins id = true := by simpa using List.find?_some found
    have held : s.nd[c].identity = some id := by
      unfold Entry.rejoins at rejoins
      exact of_decide_eq_true (Bool.and_eq_true_iff.1 rejoins).1
    exact h.once c a id other.symm held
  next nowhere =>
    have identity : b.identity = id := by
      split at chosen <;> cases chosen
      rfl
    rw [identity]
    intro held
    exact List.find?_eq_none.1 nowhere a (mem_addresses a) (h.rejoins notBinding held)

/-- An identity read by a survey that seeks (R71, R72). -/
theorem State.IdentitiesHeldOnce.identityRead (h : s.IdentitiesHeldOnce) (noCommand : s.cx.inFlight = none)
    (seeking : s.sv.state = .seeking) (field : BitVec 32) : (s.identityRead field).IdentitiesHeldOnce := by
  have notBinding : s.sv.state ≠ .binding := by
    rw [seeking]
    nofun
  unfold State.identityRead
  split
  · exact h.surveyWouldEnd noCommand notBinding _
  · split
    next b chosen =>
      refine h.of_addsNothing (fun _ => .refl _) (fun a hb => absurd hb (h.unbound notBinding a))
        (fun _ => ⟨b, rfl, h.chooseBinding notBinding chosen⟩) ?_
      rw [State.setSv_cx, noCommand]
      nofun
    next => exact h.surveyWouldEnd noCommand notBinding _

/-- An acknowledged ASSIGN puts the elected identity at its target, where it can stand (R58, R73). -/
theorem State.IdentitiesHeldOnce.bindEntry (h : s.IdentitiesHeldOnce) (noCommand : s.cx.inFlight = none)
    (elected : s.sv.state = .elected) : s.bindEntry.IdentitiesHeldOnce := by
  obtain ⟨b, binding, unheld⟩ := h.elected elected
  have notBinding : s.sv.state ≠ .binding := by
    rw [elected]
    nofun
  have bound_eq : s.bindEntry =
      (s.setEntry b.target (boundEntry b.identity s.fe.frameNo)).setSv { s.sv with state := .binding } := by
    unfold State.bindEntry
    rw [binding]
  have entry : ∀ a : NodeAddr, s.bindEntry.nd[a] =
      if b.target = a then boundEntry b.identity s.fe.frameNo else s.nd[a] := by
    intro a
    rw [bound_eq]
    exact upd_get _ _ _ _
  have survey : s.bindEntry.sv = { s.sv with state := .binding } := by
    rw [bound_eq]
    rfl
  constructor
  case free =>
    intro a hf
    rw [entry] at hf ⊢
    split at hf
    next => cases hf
    next other =>
      rw [if_neg other]
      exact h.free a hf
  case once =>
    intro a c id ac ha hc
    rw [entry] at ha hc
    split at ha
    next target =>
      rw [if_neg fun e => ac (target.symm.trans e)] at hc
      cases ha
      exact unheld c (fun e => ac (target.symm.trans e.symm)) hc
    next =>
      split at hc
      next target =>
        cases hc
        exact unheld a (fun e => ac (e.trans target)) ha
      next => exact h.once a c id ac ha hc
  case bound =>
    intro a hb
    rw [survey]
    rw [entry] at hb
    split at hb
    next target => exact ⟨rfl, b, binding, target⟩
    next => exact absurd hb (h.unbound notBinding a)
  case elected =>
    rw [survey]
    nofun
  case command =>
    rw [State.bindEntry_cx, noCommand]
    nofun

/-- A failing ASSIGN leaves no binding (R73). -/
theorem State.IdentitiesHeldOnce.electionFailure (h : s.IdentitiesHeldOnce) (noCommand : s.cx.inFlight = none)
    (elected : s.sv.state = .elected) : s.electionFailure.IdentitiesHeldOnce := by
  have notBinding : s.sv.state ≠ .binding := by
    rw [elected]
    nofun
  have seeks : (s.setSv { s.sv with
      state := .seeking, binding := none
      result := { s.sv.result with electionFailures := s.sv.result.electionFailures + 1 } }).IdentitiesHeldOnce := by
    refine h.of_noBound (fun _ => .refl _) (h.unbound notBinding) nofun ?_
    rw [State.setSv_cx, noCommand]
    nofun
  unfold State.electionFailure
  dsimp only
  split
  · exact seeks.surveyWouldEnd noCommand nofun _
  · exact seeks

/-- Capability A kept in the binding record: the binding is still of the same entry (R74). -/
theorem State.IdentitiesHeldOnce.holdCapA (h : s.IdentitiesHeldOnce) (noCommand : s.cx.inFlight = none)
    (binding : s.sv.state = .binding) (data : BitVec 16) : (s.holdCapA data).IdentitiesHeldOnce := by
  refine h.of_addsNothing (fun _ => .refl _) (fun a hb => ?_) (fun elected => ?_) ?_
  · obtain ⟨_, b, record, target⟩ := h.bound a hb
    refine ⟨binding, { b with capA := some data }, ?_, target⟩
    simp [State.holdCapA, record]
  · have e : s.sv.state = .elected := elected
    rw [binding] at e
    cases e
  · rw [State.holdCapA_cx, noCommand]
    nofun

/-- The survey's entry leaves BOUND as the survey seeks again: no other entry was BOUND (R60, R61, R75). -/
theorem State.IdentitiesHeldOnce.leaveBinding (h : s.IdentitiesHeldOnce) {b : Binding} (record : s.sv.binding = some b)
    {e : Entry} (identity : e.identity = s.nd[b.target].identity) (notFree : e.state ≠ .free) (notBound : e.state ≠ .bound)
    (nd : t.nd = upd s.nd b.target e) (notElected : t.sv.state ≠ .elected) (noCommand : t.cx.inFlight = none) :
    t.IdentitiesHeldOnce := by
  refine h.of_noBound (fun a => ?_) (fun a => ?_) notElected ?_
  · rw [nd]
    exact addsNothing_upd (.moved identity notFree notBound) a
  · rw [nd, upd_get]
    split
    · exact notBound
    next other =>
      intro hb
      obtain ⟨_, b', record', target⟩ := h.bound a hb
      rw [record] at record'
      cases record'
      exact other target
  · rw [noCommand]
    nofun

theorem State.IdentitiesHeldOnce.makeReady (h : s.IdentitiesHeldOnce) (noCommand : s.cx.inFlight = none) {b : Binding}
    (record : s.sv.binding = some b) (data : BitVec 16) : (s.makeReady b.target data).IdentitiesHeldOnce := by
  unfold State.makeReady
  rw [record]
  exact h.leaveBinding record (e := { s.entry b.target with
    state := .ready, caps := some { a := b.capA.getD 0, b := data } }) rfl nofun nofun rfl nofun noCommand

theorem State.IdentitiesHeldOnce.bindingFailed (h : s.IdentitiesHeldOnce) (noCommand : s.cx.inFlight = none)
    {b : Binding} (record : s.sv.binding = some b) : (s.bindingFailed b.target).IdentitiesHeldOnce := by
  refine h.leaveBinding record (e := { s.entry b.target with state := .lost }) rfl nofun nofun ?_ nofun ?_
  · unfold State.bindingFailed State.loseBinding
    split
    next lost =>
      have same : { s.entry b.target with state := .lost } = s.nd[b.target] := by
        rw [← lost]
        rfl
      rw [same]
      exact table_ext fun a => by
        rw [upd_get]
        split
        next target => exact target ▸ rfl
        next => rfl
    next => rfl
  · rw [State.bindingFailed_cx, noCommand]

/-- The outcome of the command the survey's state names (R73, R74). -/
theorem State.IdentitiesHeldOnce.surveyOutcome (h : s.IdentitiesHeldOnce) (noCommand : s.cx.inFlight = none)
    {r : InFlight} (named : s.sv.commandMatches r) (o : CmdOutcome) (data : BitVec 16) :
    (s.surveyOutcome r o data).IdentitiesHeldOnce := by
  unfold State.surveyOutcome
  split
  next cmd =>
    have elected := Survey.commandMatches_of_assign named cmd
    split
    · exact h.bindEntry noCommand elected
    · exact h.electionFailure noCommand elected
  next reg a cmd target =>
    obtain ⟨binding, b, record, target'⟩ := Survey.commandMatches_of_read named cmd
    rw [target] at target'
    cases target'
    split
    · split
      · exact h.holdCapA noCommand binding data
      · exact h.makeReady noCommand record data
    · exact h.bindingFailed noCommand record
  next => exact h

/-! ### Outcomes of the other commands -/

theorem State.IdentitiesHeldOnce.moveEntry (h : s.IdentitiesHeldOnce) (q : Request) (o : CmdOutcome) :
    (s.moveEntry q o).IdentitiesHeldOnce := by
  unfold State.moveEntry
  split
  · split
    · exact h.setEntryState q.addr nofun nofun
    · exact h
  · split
    · exact h.setEntryState q.addr nofun nofun
    · exact h
  · exact h.freeEntry q.addr
  all_goals exact h

theorem State.IdentitiesHeldOnce.requestOutcome (h : s.IdentitiesHeldOnce) (o : CmdOutcome) (data : BitVec 16)
    (attempts : Nat) : (s.requestOutcome o data attempts).IdentitiesHeldOnce := by
  unfold State.requestOutcome
  split
  next q _ _ => exact (h.moveEntry q o).of_same ⟨rfl, rfl, rfl⟩
  next => exact h

/-- Every outcome handed to the source of the command in progress. -/
theorem State.IdentitiesHeldOnce.handOver (h : s.IdentitiesHeldOnce) {r : InFlight} (inFlight : s.cx.inFlight = some r)
    (o : CmdOutcome) (data : BitVec 16) : (s.handOver r o data).IdentitiesHeldOnce := by
  unfold State.handOver
  dsimp only
  split
  next =>
    exact h.noInFlight.of_same
      ⟨State.commitOutcome_nd _ _ _, State.commitOutcome_sv _ _ _, by rw [State.commitOutcome_cx]⟩
  next source => exact h.noInFlight.surveyOutcome rfl (h.command r inFlight (.inl source)) o data
  next => exact h.noInFlight.requestOutcome o data _
  next => exact h.noInFlight

theorem State.IdentitiesHeldOnce.concludeStage (h : s.IdentitiesHeldOnce) {r : InFlight}
    (inFlight : s.cx.inFlight = some r) (o : CmdOutcome) (data : BitVec 16) :
    (s.concludeStage r o data).IdentitiesHeldOnce := by
  unfold State.concludeStage
  split
  · exact h.setInFlight inFlight rfl rfl rfl
  · exact h.handOver inFlight o data

/-! ### Response arrival -/

theorem State.IdentitiesHeldOnce.updateTarget (h : s.IdentitiesHeldOnce) (target : Target) {f : Entry → Entry}
    (entry : ∀ e : Entry, e.AddsNothing (f e)) : (s.updateTarget target f).IdentitiesHeldOnce := by
  unfold State.updateTarget
  split
  · exact h.setEntry (entry _)
  · exact h
  · exact h

theorem State.IdentitiesHeldOnce.markResync (h : s.IdentitiesHeldOnce) (target : Target) :
    (s.markResync target).IdentitiesHeldOnce :=
  h.updateTarget target fun _ => .of_same rfl rfl

theorem State.IdentitiesHeldOnce.loseTarget (h : s.IdentitiesHeldOnce) (target : Target) :
    (s.loseTarget target).IdentitiesHeldOnce := by
  unfold State.loseTarget
  split
  next a =>
    split
    · exact (h.setEntryState a (st := .lost) nofun nofun).of_same ⟨rfl, rfl, rfl⟩
    · exact h
  next => exact h
  next => exact h

theorem State.noteResponse_inFlight (s : State) (r : InFlight) (j : Judgement) :
    (s.noteResponse r j).cx.inFlight = s.cx.inFlight := by
  unfold State.noteResponse
  dsimp only
  split <;> simp

theorem State.IdentitiesHeldOnce.noteResponse (h : s.IdentitiesHeldOnce) (r : InFlight) (j : Judgement) :
    (s.noteResponse r j).IdentitiesHeldOnce := by
  have noted := h.updateTarget r.target fun e =>
    Entry.AddsNothing.afterResponse e j (decide (r.sending = .ping)) s.fe.frameNo s.cx.cfg.loss
  unfold State.noteResponse
  dsimp only
  split
  · exact noted.of_same ⟨rfl, rfl, rfl⟩
  · exact noted

theorem State.IdentitiesHeldOnce.applyResult (h : s.IdentitiesHeldOnce) {r : InFlight}
    (inFlight : s.cx.inFlight = some r) (a : AttemptResult) : (s.applyResult r a).IdentitiesHeldOnce := by
  cases a with
  | acked d => exact h.concludeStage inFlight .ack d
  | refused d => exact h.concludeStage inFlight .refuse d
  | waitRepeat => exact h.setInFlight inFlight rfl rfl rfl
  | waitLimit => exact (h.markResync r.target).concludeStage (by rwa [State.markResync_cx]) .timeout 0
  | retry => exact h.setInFlight inFlight rfl rfl rfl
  | retriesSpent => exact (h.markResync r.target).concludeStage (by rwa [State.markResync_cx]) .noAnswer 0
  | lossLimit =>
    exact ((h.loseTarget r.target).markResync r.target).concludeStage
      (by rwa [State.markResync_cx, State.loseTarget_cx]) .noAnswer 0

theorem State.IdentitiesHeldOnce.unsolicited (h : s.IdentitiesHeldOnce) (field : BitVec 32) :
    (s.unsolicited field).IdentitiesHeldOnce := by
  unfold State.unsolicited
  split
  · exact h
  · exact h.of_same ⟨rfl, rfl, rfl⟩

/-- A sending is IDENTIFY only where the command is. -/
theorem InFlight.cmd_of_sending_identify {r : InFlight} (h : r.sending = .identify) : r.cmd = .identify := by
  unfold InFlight.sending at h
  split at h
  · cases h
  · exact h

theorem State.IdentitiesHeldOnce.applyResponse (h : s.IdentitiesHeldOnce) (field : BitVec 32) :
    (s.applyResponse field).IdentitiesHeldOnce := by
  unfold State.applyResponse
  split
  next => exact h.unsolicited field
  next r inFlight =>
    split
    next => exact h.unsolicited field
    next sending =>
      have identify := InFlight.cmd_of_sending_identify sending
      have seeking := Survey.commandMatches_of_identify (h.command r inFlight (.inr identify)) identify
      exact h.noInFlight.identityRead rfl seeking field
    next =>
      exact (h.noteResponse r _).applyResult ((s.noteResponse_inFlight r _).trans inFlight) _

theorem State.IdentitiesHeldOnce.respond (h : s.IdentitiesHeldOnce) (field : BitVec 32) :
    (s.respond field).IdentitiesHeldOnce := by
  have answered : (s.fieldSent.setFe { s.fieldSent.fe with pos := .answered }).IdentitiesHeldOnce :=
    h.fieldSent.of_same ⟨rfl, rfl, rfl⟩
  exact answered.applyResponse field

/-! ### Every command -/

theorem kept_identitiesHeldOnce : Kept State.IdentitiesHeldOnce where
  reset _ _ _ := State.identitiesHeldOnce_deviceReset _
  readData _ _ h := h.of_same ⟨rfl, rfl, rfl⟩
  fault _ _ _ _ h := h.of_same ⟨rfl, rfl, rfl⟩
  linkStart s h := h.of_same s.sameDirectory_linkStart
  linkStop s h := h.of_same s.sameDirectory_linkStop
  faultClear _ h := h.faultClear
  linkCfg s w h := h.of_same (s.sameDirectory_writeLinkCfg w)
  xchgCfg s w h := h.of_same (s.sameDirectory_writeXchgCfg w)
  linkErrors _ h := h.of_same ⟨rfl, rfl, rfl⟩
  surveyStart _ h := h.surveyStart
  commit s m h := h.of_same (s.sameDirectory_writeCommit m)
  evtClear _ _ h := h.of_same ⟨rfl, rfl, rfl⟩
  sevtClear _ _ h := h.of_same ⟨rfl, rfl, rfl⟩
  evtEnable _ _ h := h.of_same ⟨rfl, rfl, rfl⟩
  sevtEnable _ _ h := h.of_same ⟨rfl, rfl, rfl⟩
  faultRecord _ h := h.of_same ⟨rfl, rfl, rfl⟩
  popGap s h := h.of_same s.sameDirectory_popGap
  appendChange s h := h.of_same s.sameDirectory_appendChange
  clearChanges s h := h.of_same s.sameDirectory_clearChanges
  chgStage0 _ _ h := h.of_same ⟨rfl, rfl, rfl⟩
  chgStage1 _ _ h := h.of_same ⟨rfl, rfl, rfl⟩
  reqStage0 _ _ h := h.of_same ⟨rfl, rfl, rfl⟩
  reqStage1 _ _ h := h.of_same ⟨rfl, rfl, rfl⟩
  submit s h := h.of_same s.sameDirectory_submitRequest
  flush _ h := h.of_same ⟨rfl, rfl, rfl⟩
  popCompletion s h := h.of_same s.sameDirectory_popCompletion
  streamCfg s n w h := h.of_same (s.sameDirectory_writeStreamCfg n w)
  streamLevels _ _ _ h := h.of_same ⟨rfl, rfl, rfl⟩
  streamCtrl s n a b d h := h.of_same (s.sameDirectory_writeStreamCtrl n a b d)
  counts _ _ h := h.of_same ⟨rfl, rfl, rfl⟩
  readPort s n h := h.of_same (s.sameDirectory_readPort n)
  writePort s n w h := h.of_same (s.sameDirectory_writePort n w)
  placeField s h := h.of_same s.sameDirectory_placeField
  fieldSent _ h := h.fieldSent
  startFrame _ _ h := h.startFrame
  cleanFrame _ _ h := h.of_same ⟨rfl, rfl, rfl⟩
  contention _ _ h := h.contention
  endFrame _ p _ h := h.endFrame p
  respond _ f _ h := h.respond f

/-- Settles O60: each operation keeps the invariant. It turns on the survey's command in progress, which names the
survey's state: an entry is bound, and leaves BOUND, only by that command's outcome. -/
theorem stepKeepsIdentitiesOnce : Obligations.StepKeepsIdentitiesOnce := by
  intro s t h taken
  exact step_kept kept_identitiesHeldOnce (fun _ _ held => held.of_same ⟨rfl, rfl, rfl⟩) h taken

end Sys2Proof.Machine
end

section
/-! PROOFS. The change list emptied by CHG_CLEAR (R88). -/
namespace Sys2Proof.Machine

theorem exec_chgClear_alive {s : State} (h : s.held = false) : exec .chgClear s = .next s.clearChanges :=
  congrArg _ (State.whenAlive_alive h State.clearChanges)

theorem State.clearChanges_idle {s : State} (h : s.ce.phase = .idle) :
    s.clearChanges = { s with cl := { s.cl with list := [] } } :=
  if_neg (not_not_intro h)

theorem State.clearChanges_busy {s : State} (h : s.ce.phase ≠ .idle) :
    s.clearChanges = s.accessFault .listBusy 0x0AC :=
  if_pos h

theorem decodeOffset_chgClear : decodeOffset 0x0AC = some .chgClear := by decide

theorem decodeOffset_chgStatus : decodeOffset 0x0B0 = some .chgStatus := by decide

/-- With an empty list CHG_STATUS counts no record. -/
theorem State.windowRead_chgStatus_empty {s : State} (h : s.held = false) (empty : s.cl.list = []) :
    s.windowRead 0x0B0 = 0 := by
  rw [State.windowRead_alive h decodeOffset_chgStatus]
  simp only [State.regWord, empty, List.length_nil]
  decide

/-- With an empty list no CHANGE_VIEW shows a record. -/
theorem State.regWord_changeView_empty {s : State} (empty : s.cl.list = []) (i : Fin 16) (second : Bool) :
    s.regWord (.changeView i second) = 0 := by
  cases second <;> simp [State.regWord, empty, Change.word0, Change.word1]

/-- Settles O16: in phase IDLE the cleared state is written out and read back; the three operations by which a commit
fails leave the Change List by their frames. -/
theorem changeListCleared : Obligations.ChangeListCleared := by
  refine ⟨fun s alive => ⟨fun idle => ⟨?_, ?_, ?_⟩, fun busy => ?_⟩,
    fun s a o n => ⟨s.stagingFailed_cl a o, s.abortLinkStop_cl n, s.countCopy_cl⟩⟩
  · rw [exec_chgClear_alive alive, State.clearChanges_idle idle]
  · intro w l
    rw [exec_registerWrite alive decodeOffset_chgClear, exec_chgClear_alive alive]
    rfl
  · intro t taken
    rw [exec_chgClear_alive alive, State.clearChanges_idle idle] at taken
    cases taken
    exact ⟨State.windowRead_chgStatus_empty alive rfl, State.regWord_changeView_empty rfl⟩
  · rw [exec_chgClear_alive alive, State.clearChanges_busy busy]

end Sys2Proof.Machine
end

section
/-! PROOFS. The slots of the maps apart and inside the payload (R83): validation establishes it for a pending map, and
every step keeps it. -/
namespace Sys2Proof.Machine

/-! ### Maps that fit -/

theorem slotTable_empty_get (k : Fin 32) : SlotTable.empty[k] = none := by simp [SlotTable.empty]

theorem mapFits_empty (len : Nat) : MapFits SlotTable.empty len where
  within k r e := by rw [slotTable_empty_get] at e; cases e
  disjoint j k r r' _ e := by rw [slotTable_empty_get] at e; cases e

/-- A map whose records all stand in a map that fits, at the same slot numbers, fits. -/
theorem MapFits.of_subset {m m' : SlotTable} {len : Nat} (h : MapFits m len)
    (kept : ∀ (k : Fin 32) (r : SlotRecord), m'[k] = some r → m[k] = some r) : MapFits m' len where
  within k r e := h.within k r (kept k r e)
  disjoint j k r r' ne e e' := h.disjoint j k r r' ne (kept j r e) (kept k r' e')

/-- Revocation only takes records away (R81). -/
theorem of_revoke_eq_some {m : SlotTable} {nd : Directory} {k : Fin 32} {r : SlotRecord}
    (e : (revoke m nd)[k] = some r) : m[k] = some r := by
  unfold revoke at e
  rw [mapTable_get] at e
  split at e
  next held =>
    split at e
    · rw [held, e]
    · cases e
  next => cases e

theorem MapFits.revoke {m : SlotTable} {len : Nat} (h : MapFits m len) (nd : Directory) :
    MapFits (revoke m nd) len :=
  h.of_subset fun _ _ => of_revoke_eq_some

/-! ### What validation establishes -/

/-- Every record of the map starts in the payload region: the half of R83 that no check of the final map looks at. -/
def StartsInPayload (m : SlotTable) : Prop :=
  ∀ (k : Fin 32) (r : SlotRecord), m[k] = some r → Config.payloadStart ≤ r.start.toNat

theorem MapFits.startsInPayload {m : SlotTable} {len : Nat} (h : MapFits m len) : StartsInPayload m :=
  fun k r e => (h.within k r e).1

theorem StartsInPayload.upd {m : SlotTable} (h : StartsInPayload m) (k : Fin 32) {o : Option SlotRecord}
    (new : ∀ r, o = some r → Config.payloadStart ≤ r.start.toNat) : StartsInPayload (upd m k o) := by
  intro j r e
  rw [upd_get] at e
  split at e
  · exact new r e
  · exact h j r e

theorem StartsInPayload.applyChange {m m' : SlotTable} {c : Change} (h : StartsInPayload m)
    (start : c.startsInPayload) (e : applyChange m c = some m') : StartsInPayload m' := by
  cases c with
  | add k rec =>
    simp only [Machine.applyChange] at e
    split at e
    · cases e
      exact h.upd k fun r new => by cases new; exact start
    · cases e
  | drop k =>
    simp only [Machine.applyChange] at e
    split at e
    · cases e
    · cases e
      exact h.upd k nofun
  | move k st =>
    simp only [Machine.applyChange] at e
    split at e
    · cases e
    · cases e
      exact h.upd k fun r new => by cases new; exact start

theorem StartsInPayload.applyChanges {list : List Change} : ∀ {i : Nat} {m m' : SlotTable}, StartsInPayload m →
    (∀ c ∈ list, c.startsInPayload) → applyChanges list i m = .ok m' → StartsInPayload m' := by
  induction list with
  | nil =>
    intro i m m' h _ e
    cases e
    exact h
  | cons c rest ih =>
    intro i m m' h starts e
    unfold Machine.applyChanges at e
    split at e
    · cases e
    · next applied =>
      exact ih (h.applyChange (starts c (.head _)) applied) (fun d hd => starts d (.tail _ hd)) e

theorem stop_le_of_failsRange {len : Nat} {k : Fin 32} {r : SlotRecord} (h : failsRange len k r = false) :
    r.stop ≤ len := by
  simpa [failsRange] using h

/-- A record that passes OVERLAP lies before or after every record of a higher slot number (R92). -/
theorem apart_of_failsOverlap {m : SlotTable} {j k : Fin 32} {r r' : SlotRecord} (h : failsOverlap m j r = false)
    (lt : j < k) (e : m[k] = some r') : r.stop ≤ r'.start.toNat ∨ r'.stop ≤ r.start.toNat := by
  have pair := anyRecord_false h k r' e
  simp only [lt, decide_true, Bool.true_and, SlotRecord.intersects, Bool.and_eq_false_iff, decide_eq_false_iff_not,
    not_lt] at pair
  exact pair.symm

/-- The sequential pass keeps the starts in the payload, and RANGE and OVERLAP give the rest of R83. -/
theorem mapFits_of_validate {list : List Change} {active final : SlotTable} {len : Nat} {nd : Directory}
    {ss : Vector Stream 8} (starts : StartsInPayload active) (changes : ∀ c ∈ list, c.startsInPayload)
    (h : validate list active len nd ss = .changed final) : MapFits final len := by
  obtain ⟨_, applied, passed, _⟩ := validate_changed h
  have finalStarts : StartsInPayload final := starts.applyChanges changes applied
  have range : ∀ (k : Fin 32) (r : SlotRecord), final[k] = some r → failsRange len k r = false :=
    firstRefusal_none passed (.range, failsRange len) (by simp [finalChecks])
  have overlap : ∀ (k : Fin 32) (r : SlotRecord), final[k] = some r → failsOverlap final k r = false :=
    firstRefusal_none passed (.overlap, failsOverlap final) (by simp [finalChecks])
  refine ⟨fun k r e => ⟨finalStarts k r e, stop_le_of_failsRange (range k r e)⟩, ?_⟩
  intro j k r r' ne e e'
  rcases lt_or_gt_of_ne ne with lt | gt
  · exact apart_of_failsOverlap (overlap j r e) lt e'
  · exact (apart_of_failsOverlap (overlap k r' e') gt e).symm

theorem payloadStart_le_of_startLegal {x : BitVec 11} (h : startLegal x = true) : Config.payloadStart ≤ x.toNat :=
  of_decide_eq_true h

/-- An append accepted from the staging words carries a legal start (R87). -/
theorem startsInPayload_of_stagedChange {w0 w1 : Word} {c : Change} (e : stagedChange w0 w1 = some c) :
    c.startsInPayload := by
  unfold stagedChange at e
  extract_lets kind slot start at e
  split at e
  · split at e
    · split at e
      next legal =>
        cases e
        exact payloadStart_le_of_startLegal legal
      next => cases e
    · cases e
  · split at e
    · cases e
      trivial
    · split at e
      · split at e
        next legal =>
          cases e
          exact payloadStart_le_of_startLegal legal
        next => cases e
      · cases e

/-! ### What the invariant looks at -/

/-- The part of the state that the invariant looks at: the link with its two configurations, the two maps and the change
list. An operation keeps the invariant where it leaves this part. -/
def State.mapView (s : State) : LinkState × LinkCfg × LinkCfg × SlotTable × Option SlotTable × List Change :=
  (s.fe.link, s.fe.cfg, s.fe.session, s.sm.active, s.ce.pending, s.cl.list)

theorem FrameEngine.running_congr {fe fe' : FrameEngine} (link : fe'.link = fe.link) : fe'.running = fe.running := by
  simp only [FrameEngine.running, link]

section
variable {s t : State}

theorem State.MapsFit.of_same (h : s.MapsFit) (same : t.mapView = s.mapView) : t.MapsFit := by
  simp only [State.mapView, Prod.mk.injEq] at same
  obtain ⟨link, cfg, session, active, pending, list⟩ := same
  constructor
  · rw [active, cfg]
    exact h.active
  · rw [pending, cfg]
    exact h.pending
  · rw [FrameEngine.running_congr link, session, cfg]
    exact h.session
  · rw [list]
    exact h.changes
  · rw [link, active, pending]
    exact h.down

/-- With no frames sent and both maps empty only the change list is left to look at. -/
theorem State.mapsFit_of_noMap (stopped : t.fe.running = false) (active : t.sm.active = SlotTable.empty)
    (pending : t.ce.pending = none) (changes : ∀ c ∈ t.cl.list, c.startsInPayload) : t.MapsFit where
  active := by
    rw [active]
    exact mapFits_empty _
  pending m e := by
    rw [pending] at e
    cases e
  session running := by
    rw [stopped] at running
    cases running
  changes := changes
  down _ := ⟨active, pending⟩

/-! ### One block replaced -/

/-- A Frame Engine that sends frames with the session in use. -/
theorem State.MapsFit.setFe (h : s.MapsFit) {fe : FrameEngine} (cfg : fe.cfg = s.fe.cfg)
    (session : fe.session = s.fe.cfg) (notDown : fe.link ≠ .down) : (s.setFe fe).MapsFit where
  active := by
    rw [State.setFe_fe, cfg]
    exact h.active
  pending := by
    rw [State.setFe_fe, cfg]
    exact h.pending
  session _ := session.trans cfg.symm
  changes := h.changes
  down isDown := absurd isDown notDown

theorem State.MapsFit.setLink (h : s.MapsFit) {l : LinkState} (notDown : l ≠ .down) (running : s.fe.running = true) :
    (s.setLink l).MapsFit :=
  h.setFe rfl (h.session running) notDown

/-- A Commit Engine that holds no pending map but the one held before. -/
theorem State.MapsFit.setCe (h : s.MapsFit) {ce : Commit} (pending : ce.pending = s.ce.pending ∨ ce.pending = none) :
    (s.setCe ce).MapsFit := by
  rcases pending with same | discarded
  · exact h.of_same (by simp [State.mapView, same])
  · exact
      { active := h.active
        pending := fun m e => by
          rw [State.setCe_ce, discarded] at e
          cases e
        session := h.session
        changes := h.changes
        down := fun isDown => ⟨(h.down isDown).1, discarded⟩ }

theorem State.MapsFit.setCl (h : s.MapsFit) {cl : ChangeList} (changes : ∀ c ∈ cl.list, c.startsInPayload) :
    (s.setCl cl).MapsFit :=
  { h with changes := changes }

theorem State.MapsFit.raise (h : s.MapsFit) (e : StickyEvent) : (s.raise e).MapsFit := h.of_same rfl

/-! ### The host's writes -/

theorem State.mapsFit_deviceReset (s : State) : s.deviceReset.MapsFit :=
  State.mapsFit_of_noMap rfl rfl rfl nofun

theorem State.MapsFit.linkStart (h : s.MapsFit) : s.linkStart.MapsFit := by
  unfold State.linkStart
  split
  · exact (h.setFe (fe := { s.fe with link := .syncing, session := s.fe.cfg }) rfl rfl nofun).of_same rfl
  · exact h.of_same rfl

theorem State.MapsFit.abortLinkStop (h : s.MapsFit) (n : Nat) : (s.abortLinkStop n).MapsFit :=
  (h.setCe (.inr rfl)).raise .commitDone

theorem State.MapsFit.stopCommit (h : s.MapsFit) : s.stopCommit.MapsFit := by
  unfold State.stopCommit
  split
  · exact h.abortLinkStop 0
  · split
    · exact h
    · exact h.abortLinkStop _
  all_goals exact h

theorem State.MapsFit.beginDrain (h : s.MapsFit) (fromSync : Bool) (running : s.fe.running = true) :
    (s.beginDrain fromSync).MapsFit :=
  h.setFe rfl (h.session running) nofun

theorem State.MapsFit.linkStop (h : s.MapsFit) : s.linkStop.MapsFit := by
  unfold State.linkStop
  split
  next link => exact (h.beginDrain true (by simp [FrameEngine.running, link])).stopCommit
  next link => exact (h.beginDrain false (by simp [FrameEngine.running, link])).stopCommit
  · exact h
  · exact h.of_same rfl
  · exact h.of_same rfl

/-- LINK_CFG changes only in DOWN, where there is no map for the new frame length to cut (R22). -/
theorem State.MapsFit.writeLinkCfg (h : s.MapsFit) (w : Word) : (s.writeLinkCfg w).MapsFit := by
  unfold State.writeLinkCfg
  split
  next link =>
    obtain ⟨active, pending⟩ := h.down link
    split
    · exact State.mapsFit_of_noMap (by simp [FrameEngine.running, link]) active pending h.changes
    · exact h.of_same rfl
  next => exact h.of_same rfl

theorem State.mapView_writeXchgCfg (s : State) (w : Word) : (s.writeXchgCfg w).mapView = s.mapView := by
  unfold State.writeXchgCfg
  split
  · split <;> rfl
  · rfl

theorem State.mapView_surveyStart (s : State) : s.surveyStart.mapView = s.mapView := by
  unfold State.surveyStart
  split <;> rfl

theorem State.mapView_commitApply (s : State) : s.commitApply.mapView = s.mapView := by
  unfold State.commitApply
  split <;> rfl

theorem State.mapView_writeCommit (s : State) (m : Option CommitMode) : (s.writeCommit m).mapView = s.mapView := by
  unfold State.writeCommit
  split
  · rfl
  · split
    · rfl
    · split
      · rfl
      · exact s.mapView_commitApply

theorem State.mapView_popGap (s : State) : s.popGap.mapView = s.mapView := by
  unfold State.popGap
  split <;> rfl

theorem State.MapsFit.appendChange (h : s.MapsFit) : s.appendChange.MapsFit := by
  unfold State.appendChange
  split
  · exact h.of_same rfl
  · split
    · exact h.of_same rfl
    · split
      next => exact h.of_same rfl
      next staged =>
        refine h.setCl fun c held => ?_
        rcases List.mem_append.1 held with old | new
        · exact h.changes c old
        · cases List.mem_singleton.1 new
          exact startsInPayload_of_stagedChange staged

theorem State.MapsFit.clearChanges (h : s.MapsFit) : s.clearChanges.MapsFit := by
  unfold State.clearChanges
  split
  · exact h.of_same rfl
  · exact h.setCl nofun

theorem State.mapView_submitRequest (s : State) : s.submitRequest.mapView = s.mapView := by
  unfold State.submitRequest
  split
  · rfl
  · split <;> rfl

theorem State.mapView_popCompletion (s : State) : s.popCompletion.mapView = s.mapView := by
  unfold State.popCompletion
  split <;> rfl

theorem State.mapView_writeStreamCfg (s : State) (n : Fin 8) (w : Word) :
    (s.writeStreamCfg n w).mapView = s.mapView := by
  unfold State.writeStreamCfg
  split
  · rfl
  · split
    · rfl
    · split <;> rfl

theorem State.mapView_recordGap (s : State) (g : GapRecord) : (s.recordGap g).mapView = s.mapView := by
  simp only [State.mapView, State.recordGap_fe, State.recordGap_sm, State.recordGap_ce, State.recordGap_cl]

theorem State.mapView_enableStream (s : State) (n : Fin 8) : (s.enableStream n).mapView = s.mapView := by
  unfold State.enableStream
  split
  · rfl
  · split
    · rfl
    · exact State.mapView_recordGap _ _

theorem State.mapView_writeStreamCtrl (s : State) (n : Fin 8) (enable disable dma : Bool) :
    (s.writeStreamCtrl n enable disable dma).mapView = s.mapView := by
  unfold State.writeStreamCtrl
  split
  · rfl
  · exact (s.setDma n dma).mapView_enableStream n
  · rfl
  · rfl

theorem State.mapView_readPort (s : State) (n : Fin 8) : (s.readPort n).mapView = s.mapView := by
  unfold State.readPort
  split
  · rfl
  · split
    · rfl
    · split
      split <;> rfl

theorem State.mapView_writePort (s : State) (n : Fin 8) (w : Word) : (s.writePort n w).mapView = s.mapView := by
  unfold State.writePort
  split
  · rfl
  · split
    · rfl
    · split
      split <;> rfl

/-! ### The link-down clear -/

theorem State.MapsFit.enterDown (h : s.MapsFit) : s.enterDown.MapsFit :=
  State.mapsFit_of_noMap rfl rfl rfl (by rw [s.enterDown_cl]; exact h.changes)

theorem State.MapsFit.enterFault (h : s.MapsFit) : s.enterFault.MapsFit :=
  State.mapsFit_of_noMap rfl rfl rfl (by rw [s.enterFault_cl]; exact h.changes)

theorem State.MapsFit.faultClear (h : s.MapsFit) : s.faultClear.MapsFit := by
  unfold State.faultClear
  split
  · exact h.enterDown
  · exact h

theorem State.MapsFit.contention (h : s.MapsFit) : s.contention.MapsFit := by
  unfold State.contention
  extract_lets _ counted
  have held : counted.MapsFit := h.of_same rfl
  split
  · exact held.enterFault
  · exact held

/-! ### The command field -/

theorem State.mapView_fixSwitchFrame (s : State) : s.fixSwitchFrame.mapView = s.mapView := by
  unfold State.fixSwitchFrame
  split <;> rfl

theorem State.mapView_placeField (s : State) : s.placeField.mapView = s.mapView := by
  unfold State.placeField
  split
  · exact s.mapView_fixSwitchFrame
  · rfl

theorem State.mapView_countCopy (s : State) : s.countCopy.mapView = s.mapView := by
  unfold State.countCopy
  split <;> rfl

theorem State.mapView_concludeBroadcast (s : State) : s.concludeBroadcast.mapView = s.mapView := by
  unfold State.concludeBroadcast
  split
  · split
    · exact State.mapView_countCopy _
    · rfl
    · rfl
  · rfl

theorem State.mapView_fieldSent (s : State) : s.fieldSent.mapView = s.mapView := by
  unfold State.fieldSent
  split
  · exact s.placeField.mapView_concludeBroadcast.trans s.mapView_placeField
  · rfl

/-! ### The arbiter -/

theorem State.mapView_offerTo {f : State → State} (same : (f s).mapView = s.mapView) :
    (s.offerTo f).mapView = s.mapView := by
  unfold State.offerTo
  split
  · rfl
  · exact same

theorem State.mapView_offerSurvey (s : State) : s.offerSurvey.mapView = s.mapView := by
  simp only [State.mapView, State.offerSurvey_fe, State.offerSurvey_sm, State.offerSurvey_ce, State.offerSurvey_cl]

theorem State.mapView_offerRequests (s : State) : s.offerRequests.mapView = s.mapView := by
  simp only [State.mapView, State.offerRequests_fe, State.offerRequests_sm, State.offerRequests_ce,
    State.offerRequests_cl]

theorem State.mapView_offerKeepalive (s : State) : s.offerKeepalive.mapView = s.mapView := by
  simp only [State.mapView, State.offerKeepalive_fe, State.offerKeepalive_sm, State.offerKeepalive_ce,
    State.offerKeepalive_cl]

theorem State.mapView_grantStaging (s : State) : s.grantStaging.mapView = s.mapView := by
  simp only [State.mapView, State.grantStaging_fe, State.grantStaging_sm, State.grantStaging_ce,
    State.grantStaging_cl]

theorem State.mapView_grantCopy (s : State) (c : LinkCommand) : (s.grantCopy c).mapView = s.mapView := by
  simp only [State.mapView, State.grantCopy_fe, State.grantCopy_sm, State.grantCopy_ce, State.grantCopy_cl]

/-- The map a commit installs is one that its validation passed, in a link that is UP (R99). -/
theorem State.MapsFit.beginStaging (h : s.MapsFit) (up : s.fe.link = .up) {final : SlotTable}
    (validated : s.validate = .changed final) : (s.beginStaging final).MapsFit where
  active := h.active
  pending m e := by
    cases e
    exact mapFits_of_validate h.active.startsInPayload h.changes validated
  session := h.session
  changes := h.changes
  down isDown := nomatch up.symm.trans isDown

theorem State.MapsFit.validatePending (h : s.MapsFit) (up : s.fe.link = .up) : s.validatePending.MapsFit := by
  unfold State.validatePending
  split
  next validated => exact (h.beginStaging up validated).of_same (State.mapView_grantStaging _)
  next => exact (h.setCl (cl := { s.cl with list := [] }) nofun).of_same rfl
  all_goals exact h.of_same rfl

theorem State.MapsFit.offerCommit (h : s.MapsFit) : s.offerCommit.MapsFit := by
  unfold State.offerCommit
  split
  · exact h
  · split
    next up => exact h.validatePending up
    next => exact h
  · split
    · exact h.of_same s.mapView_grantStaging
    · exact h
  · exact h.of_same (s.mapView_grantCopy .switch)
  · exact h.of_same (s.mapView_grantCopy .cancel)

/-- Of the four sources only the Commit Engine touches a map. -/
theorem State.MapsFit.settleField (h : s.MapsFit) : s.settleField.MapsFit := by
  have afterCommit : (s.offerTo State.offerCommit).MapsFit := by
    unfold State.offerTo
    split
    · exact h
    · exact h.offerCommit
  have afterSurvey := afterCommit.of_same (State.mapView_offerTo (State.mapView_offerSurvey _))
  have afterRequests := afterSurvey.of_same (State.mapView_offerTo (State.mapView_offerRequests _))
  exact afterRequests.of_same (State.mapView_offerTo (State.mapView_offerKeepalive _))

/-! ### A frame's start and end -/

/-- The map that the switch step leaves is the pending or the active one (R80). -/
theorem State.MapsFit.switchedMap (h : s.MapsFit) : MapFits s.switchedMap s.fe.cfg.frameLength := by
  unfold State.switchedMap
  split
  · cases pending : s.ce.pending with
    | none => exact h.active
    | some m => exact h.pending m pending
  · exact h.active

theorem State.MapsFit.completeSwitch (h : s.MapsFit) : s.completeSwitch.MapsFit :=
  ((h.setCl (cl := { s.cl with list := [] }) nofun).setCe (.inr rfl)).raise .commitDone

theorem State.MapsFit.formMap (h : s.MapsFit) (notDown : s.fe.link ≠ .down) : s.formMap.MapsFit := by
  have formed : (s.setSm s.formedSlotMap).MapsFit :=
    { h with
      active := h.switchedMap.revoke s.nd
      down := fun isDown => absurd isDown notDown }
  unfold State.formMap
  dsimp only
  split
  · exact formed.completeSwitch
  · exact formed

theorem State.mapView_startStreams (s : State) : s.startStreams.mapView = s.mapView := by
  simp only [State.mapView, State.startStreams_fe, State.startStreams_sm, State.startStreams_ce,
    State.startStreams_cl]

theorem State.mapView_endStreams (s : State) (p : List Bool) : (s.endStreams p).mapView = s.mapView := by
  simp only [State.mapView, State.endStreams_fe, State.endStreams_sm, State.endStreams_ce, State.endStreams_cl]

theorem State.MapsFit.workFrame (h : s.MapsFit) (notDown : s.fe.link ≠ .down) : s.workFrame.MapsFit := by
  have formed := h.formMap notDown
  unfold State.workFrame
  dsimp only
  split
  · exact (formed.of_same (State.mapView_startStreams _)).settleField
  · exact formed.settleField

theorem State.MapsFit.countSync (h : s.MapsFit) (running : s.fe.running = true) : s.countSync.MapsFit := by
  have counted : (s.setFe { s.fe with syncCount := s.fe.syncCount + 1 }).MapsFit := h.of_same rfl
  unfold State.countSync
  dsimp only
  split
  · exact (counted.setLink (by nofun) running).raise .linkUp
  · exact counted

theorem State.MapsFit.startFrame (h : s.MapsFit) (running : s.fe.running = true) : s.startFrame.MapsFit := by
  have next : s.nextFrame.MapsFit := h.of_same rfl
  have synced : s.nextFrame.countSync.MapsFit := next.countSync running
  unfold State.startFrame
  dsimp only
  split
  · split
    next up => exact synced.workFrame (by rw [up]; nofun)
    next => exact synced
  next up => exact next.workFrame (by rw [up]; nofun)
  next draining => exact next.workFrame (by rw [draining]; nofun)
  · exact h
  · exact h

theorem State.MapsFit.drainStep (h : s.MapsFit) : s.drainStep.MapsFit := by
  unfold State.drainStep
  split
  · split
    · exact h.enterDown
    · exact h.of_same rfl
  · split
    · exact h.of_same rfl
    · exact h

theorem State.MapsFit.endFrame (h : s.MapsFit) (p : List Bool) : (s.endFrame p).MapsFit := by
  have ended : (s.fieldSent.setFe { s.fieldSent.fe with pos := .ended }).MapsFit := h.of_same s.mapView_fieldSent
  unfold State.endFrame
  extract_lets _ _ _ served
  have delivered : served.MapsFit := by
    unfold served
    split
    · exact ended.of_same (State.mapView_endStreams _ p)
    · exact ended
  split
  · exact delivered.drainStep
  · exact delivered

/-! ### Outcomes -/

theorem State.mapView_stagingAck (s : State) : s.stagingAck.mapView = s.mapView := by
  unfold State.stagingAck
  split <;> rfl

/-- A staging command's outcome keeps the pending map or discards it (R101, R102, R107). -/
theorem State.MapsFit.commitOutcome (h : s.MapsFit) (t : Target) (o : CmdOutcome) : (s.commitOutcome t o).MapsFit := by
  unfold State.commitOutcome
  split
  · exact h.abortLinkStop _
  · split
    · exact h.of_same s.mapView_stagingAck
    · exact h.setCe (.inr rfl)
    · exact h
    · exact h

theorem State.mapView_surveyOutcome (s : State) (r : InFlight) (o : CmdOutcome) (data : BitVec 16) :
    (s.surveyOutcome r o data).mapView = s.mapView := by
  simp only [State.mapView, State.surveyOutcome_fe, State.surveyOutcome_sm, State.surveyOutcome_ce,
    State.surveyOutcome_cl]

theorem State.mapView_requestOutcome (s : State) (o : CmdOutcome) (data : BitVec 16) (attempts : Nat) :
    (s.requestOutcome o data attempts).mapView = s.mapView := by
  simp only [State.mapView, State.requestOutcome_fe, State.requestOutcome_sm, State.requestOutcome_ce,
    State.requestOutcome_cl]

theorem State.MapsFit.handOver (h : s.MapsFit) (r : InFlight) (o : CmdOutcome) (data : BitVec 16) :
    (s.handOver r o data).MapsFit := by
  unfold State.handOver
  extract_lets _ emptied
  have held : emptied.MapsFit := h.of_same rfl
  split
  · exact held.commitOutcome r.target o
  · exact held.of_same (emptied.mapView_surveyOutcome r o data)
  · exact held.of_same (emptied.mapView_requestOutcome o data r.attempt)
  · exact held

theorem State.MapsFit.concludeStage (h : s.MapsFit) (r : InFlight) (o : CmdOutcome) (data : BitVec 16) :
    (s.concludeStage r o data).MapsFit := by
  unfold State.concludeStage
  split
  · exact h.of_same rfl
  · exact h.handOver r o data

theorem State.mapView_markResync (s : State) (target : Target) : (s.markResync target).mapView = s.mapView := by
  simp only [State.mapView, State.markResync_fe, State.markResync_sm, State.markResync_ce, State.markResync_cl]

theorem State.mapView_loseTarget (s : State) (target : Target) : (s.loseTarget target).mapView = s.mapView := by
  simp only [State.mapView, State.loseTarget_fe, State.loseTarget_sm, State.loseTarget_ce, State.loseTarget_cl]

theorem State.mapView_noteResponse (s : State) (r : InFlight) (j : Judgement) :
    (s.noteResponse r j).mapView = s.mapView := by
  simp only [State.mapView, State.noteResponse_fe, State.noteResponse_sm, State.noteResponse_ce,
    State.noteResponse_cl]

theorem State.MapsFit.applyResult (h : s.MapsFit) (r : InFlight) (a : AttemptResult) : (s.applyResult r a).MapsFit := by
  have marked : (s.markResync r.target).MapsFit := h.of_same (s.mapView_markResync _)
  have lost : (s.loseTarget r.target).MapsFit := h.of_same (s.mapView_loseTarget _)
  cases a with
  | acked d => exact h.concludeStage r .ack d
  | refused d => exact h.concludeStage r .refuse d
  | waitRepeat => exact h.of_same rfl
  | waitLimit => exact marked.concludeStage r .timeout 0
  | retry => exact h.of_same rfl
  | retriesSpent => exact marked.concludeStage r .noAnswer 0
  | lossLimit => exact (lost.of_same (State.mapView_markResync _ _)).concludeStage r .noAnswer 0

theorem State.mapView_unsolicited (s : State) (field : BitVec 32) : (s.unsolicited field).mapView = s.mapView := by
  simp only [State.mapView, State.unsolicited_fe, State.unsolicited_sm, State.unsolicited_ce, State.unsolicited_cl]

theorem State.mapView_identityRead (s : State) (field : BitVec 32) : (s.identityRead field).mapView = s.mapView := by
  simp only [State.mapView, State.identityRead_fe, State.identityRead_sm, State.identityRead_ce,
    State.identityRead_cl]

theorem State.MapsFit.applyResponse (h : s.MapsFit) (field : BitVec 32) : (s.applyResponse field).MapsFit := by
  unfold State.applyResponse
  split
  · exact h.of_same (s.mapView_unsolicited field)
  · split
    · exact h.of_same (s.mapView_unsolicited field)
    · exact h.of_same (State.mapView_identityRead _ field)
    · exact (h.of_same (s.mapView_noteResponse _ _)).applyResult _ _

theorem State.MapsFit.respond (h : s.MapsFit) (field : BitVec 32) : (s.respond field).MapsFit := by
  have answered : (s.fieldSent.setFe { s.fieldSent.fe with pos := .answered }).MapsFit :=
    h.of_same s.mapView_fieldSent
  exact answered.applyResponse field

end

/-! ### Every command -/

theorem kept_mapsFit : Kept State.MapsFit where
  reset _ _ _ := State.mapsFit_deviceReset _
  readData _ _ h := h.of_same rfl
  fault _ _ _ _ h := h.of_same rfl
  linkStart _ h := h.linkStart
  linkStop _ h := h.linkStop
  faultClear _ h := h.faultClear
  linkCfg _ w h := h.writeLinkCfg w
  xchgCfg s w h := h.of_same (s.mapView_writeXchgCfg w)
  linkErrors _ h := h.of_same rfl
  surveyStart s h := h.of_same s.mapView_surveyStart
  commit s m h := h.of_same (s.mapView_writeCommit m)
  evtClear _ _ h := h.of_same rfl
  sevtClear _ _ h := h.of_same rfl
  evtEnable _ _ h := h.of_same rfl
  sevtEnable _ _ h := h.of_same rfl
  faultRecord _ h := h.of_same rfl
  popGap s h := h.of_same s.mapView_popGap
  appendChange _ h := h.appendChange
  clearChanges _ h := h.clearChanges
  chgStage0 _ _ h := h.of_same rfl
  chgStage1 _ _ h := h.of_same rfl
  reqStage0 _ _ h := h.of_same rfl
  reqStage1 _ _ h := h.of_same rfl
  submit s h := h.of_same s.mapView_submitRequest
  flush _ h := h.of_same rfl
  popCompletion s h := h.of_same s.mapView_popCompletion
  streamCfg s n w h := h.of_same (s.mapView_writeStreamCfg n w)
  streamLevels _ _ _ h := h.of_same rfl
  streamCtrl s n a b d h := h.of_same (s.mapView_writeStreamCtrl n a b d)
  counts _ _ h := h.of_same rfl
  readPort s n h := h.of_same (s.mapView_readPort n)
  writePort s n w h := h.of_same (s.mapView_writePort n w)
  placeField s h := h.of_same s.mapView_placeField
  fieldSent s h := h.of_same s.mapView_fieldSent
  startFrame _ running h := h.startFrame running
  cleanFrame _ _ h := h.of_same rfl
  contention _ _ h := h.contention
  endFrame _ p _ h := h.endFrame p
  respond _ f _ h := h.respond f

/-- Settles O59: each operation keeps the invariant. A pending map fits because validation passed it against LINK_CFG,
which a session holds fixed; formation installs that map or takes records away. -/
theorem stepKeepsMapsFit : Obligations.StepKeepsMapsFit := by
  intro s t h taken
  exact step_kept kept_mapsFit (fun _ _ held => held.of_same rfl) h taken

end Sys2Proof.Machine
end

section
/-! PROOFS. Writes to COMMIT (R96, R98). -/
namespace Sys2Proof.Machine

/-! ### The commit writes while the part is not held -/

theorem exec_commitCheck_alive {s : State} (h : s.held = false) :
    exec .commitCheck s = .next (s.writeCommit (some .check)) :=
  congrArg _ (State.whenAlive_alive h (·.writeCommit (some .check)))

theorem exec_commitApply_alive {s : State} (h : s.held = false) :
    exec .commitApply s = .next (s.writeCommit (some .apply)) :=
  congrArg _ (State.whenAlive_alive h (·.writeCommit (some .apply)))

/-! ### The cases of a write -/

/-- A mode that names neither CHECK nor APPLY is refused before the phase is looked at (R98). -/
theorem State.writeCommit_none (s : State) : s.writeCommit none = s.accessFault .fieldInvalid 0x030 := rfl

theorem State.writeCommit_busy {s : State} (h : s.ce.phase ≠ .idle) (m : CommitMode) :
    s.writeCommit (some m) = s.accessFault .stateRefused 0x030 :=
  if_pos h

theorem State.writeCommit_check {s : State} (idle : s.ce.phase = .idle) :
    s.writeCommit (some .check) = s.recordCommit (s.validate.result .check .checked) :=
  if_neg (not_not_intro idle)

theorem State.writeCommit_apply {s : State} (idle : s.ce.phase = .idle) :
    s.writeCommit (some .apply) = s.commitApply :=
  if_neg (not_not_intro idle)

theorem State.commitApply_up {s : State} (up : s.fe.link = .up) : s.commitApply = s.acceptApply := if_pos up

theorem State.commitApply_notUp {s : State} (notUp : s.fe.link ≠ .up) :
    s.commitApply = s.recordCommit (.refusal .apply .linkNotUp none none) :=
  if_neg notUp

/-- A recorded outcome changes the record and raises COMMIT_DONE, bit 7, and nothing else (R151). -/
theorem State.recordCommit_eq (s : State) (r : CommitResult) :
    s.recordCommit r =
      { s with ce := { s.ce with result := r }, eu := { s.eu with sticky := s.eu.sticky ||| 0x080 } } :=
  rfl

/-! ### The register at 030h -/

theorem decodeOffset_commit : decodeOffset 0x030 = some .commit := by decide

/-- A whole-word write at 030h is COMMIT's write of the mode it names. -/
theorem exec_write_commit {s : State} (h : s.held = false) (w : Word) :
    exec (.registerWrite 0x030 w 15) s = .next (s.writeCommit (commitModeOf w)) :=
  exec_registerWrite_all h decodeOffset_commit w

theorem commitModeOf_neither {w : Word} (h : w.extractLsb' 0 2 = 0 ∨ w.extractLsb' 0 2 = 3) :
    commitModeOf w = none := by
  unfold commitModeOf bitsAt
  rcases h with e | e <;> rw [e] <;> rfl

theorem commitModeOf_check {w : Word} (h : w.extractLsb' 0 2 = 1) : commitModeOf w = some .check := if_pos h

theorem commitModeOf_apply {w : Word} (h : w.extractLsb' 0 2 = 2) : commitModeOf w = some .apply := by
  unfold commitModeOf bitsAt
  rw [h]
  rfl

/-! ### The change list while a commit is active -/

theorem State.appendChange_busy {s : State} (h : s.ce.phase ≠ .idle) :
    s.appendChange = s.accessFault .listBusy 0x0A8 :=
  if_pos h

theorem exec_chgAppend_busy {s : State} (h : s.held = false) (busy : s.ce.phase ≠ .idle) :
    exec .chgAppend s = .next (s.accessFault .listBusy 0x0A8) :=
  congrArg _ ((State.whenAlive_alive h State.appendChange).trans (State.appendChange_busy busy))

theorem exec_chgClear_busy {s : State} (h : s.held = false) (busy : s.ce.phase ≠ .idle) :
    exec .chgClear s = .next (s.accessFault .listBusy 0x0AC) := by
  rw [exec_chgClear_alive h, State.clearChanges_busy busy]

/-! ### An accepted APPLY -/

theorem exec_commitApply_accepted {s : State} (h : s.held = false) (idle : s.ce.phase = .idle)
    (up : s.fe.link = .up) : exec .commitApply s = .next s.acceptApply := by
  rw [exec_commitApply_alive h, State.writeCommit_apply idle, State.commitApply_up up]

theorem State.acceptApply_active (s : State) : s.acceptApply.ce.phase ≠ .idle := nofun

/-- Settles O17: the mode field picks the command, and then the phase, the mode and the link state pick the case of R98 in
that order. An accepted APPLY leaves the phase PENDING, so the change list is busy. -/
theorem commitWriteJudged : Obligations.CommitWriteJudged := by
  refine ⟨fun s alive => ⟨fun w neither => ?_, fun w check => ?_, fun w apply => ?_, fun busy => ⟨?_, ?_⟩,
    fun idle => ?_, fun idle notUp => ?_, fun idle up => ?_, fun u idle up accepted => ?_⟩, fun v => ?_⟩
  · rw [exec_write_commit alive, commitModeOf_neither neither, State.writeCommit_none]
  · rw [exec_write_commit alive, commitModeOf_check check, exec_commitCheck_alive alive]
  · rw [exec_write_commit alive, commitModeOf_apply apply, exec_commitApply_alive alive]
  · rw [exec_commitCheck_alive alive, State.writeCommit_busy busy]
  · rw [exec_commitApply_alive alive, State.writeCommit_busy busy]
  · rw [exec_commitCheck_alive alive, State.writeCommit_check idle, State.recordCommit_eq]
  · rw [exec_commitApply_alive alive, State.writeCommit_apply idle, State.commitApply_notUp notUp,
      State.recordCommit_eq]
    rfl
  · rw [exec_commitApply_accepted alive idle up]
    rfl
  · rw [exec_commitApply_accepted alive idle up] at accepted
    cases accepted
    exact ⟨exec_chgAppend_busy alive s.acceptApply_active, exec_chgClear_busy alive s.acceptApply_active⟩
  · cases v <;> rfl

end Sys2Proof.Machine
end

section
/-! PROOFS. Access faults as the host clears them (R155 to R157). -/
namespace Sys2Proof.Machine

theorem exec_faultRecordClear_alive {s : State} (h : s.held = false) :
    exec .faultRecordClear s = .next s.clearFaultRecord :=
  congrArg _ (State.whenAlive_alive h State.clearFaultRecord)

theorem decodeOffset_faultRecord : decodeOffset 0x060 = some .faultRecord := by decide

theorem decodeOffset_faultCount : decodeOffset 0x064 = some .faultCount := by decide

/-- A fault finds a record that is not valid and fills it (R155). -/
theorem EventUnit.record_fault_of_none {eu : EventUnit} (h : eu.fault = none) (c : FaultCause) (o : WinOffset)
    (d : Option EnableDetail) :
    (eu.record c o d).fault = some { cause := c, offset := o, stream := streamOfOffset o, detail := d } := by
  simp only [EventUnit.record, h]

/-- Every access fault raises ACCESS_FAULT, whether or not it fills the record (R155). -/
theorem State.accessFault_raises (s : State) (c : FaultCause) (o : WinOffset) (d : Option EnableDetail) :
    (s.accessFault c o d).eu.sticky.getLsbD 11 = true := by
  simp [StickyEvent.bit]

/-- Settles O13: the clear is one write of the Event Unit. After it a fault finds the record not valid and the count 0;
before it, the clear leaves the sticky bits the fault raised. -/
theorem faultRecordCleared : Obligations.FaultRecordCleared := by
  intro s alive
  refine ⟨exec_faultRecordClear_alive alive, fun w l => ?_,
    fun w => exec_registerWrite_all alive decodeOffset_faultCount w, fun c o d => ⟨?_, ?_, ?_, rfl, rfl, ?_⟩⟩
  · rw [exec_registerWrite alive decodeOffset_faultRecord, exec_faultRecordClear_alive alive]
    rfl
  · exact EventUnit.record_fault_of_none (eu := s.clearFaultRecord.eu) rfl c o d
  · exact (rfl : satInc (0 : BitVec 8) = 1)
  · exact s.clearFaultRecord.accessFault_raises c o d
  · exact s.accessFault_raises c o d

end Sys2Proof.Machine
end

section
/-! PROOFS. The gap list as the host pops it (R158, R159). -/
namespace Sys2Proof.Machine

theorem exec_gapPop_alive {s : State} (h : s.held = false) : exec .gapPop s = .next s.popGap :=
  congrArg _ (State.whenAlive_alive h State.popGap)

/-! ### One pop -/

theorem State.popGap_empty {s : State} (h : s.eu.gaps = []) : s.popGap = s.accessFault .emptyPop 0x078 := by
  unfold State.popGap
  rw [h]
  rfl

theorem State.popGap_nonempty {s : State} (h : s.eu.gaps ≠ []) :
    s.popGap = { s with eu := { s.eu with gaps := s.eu.gaps.tail } } := by
  unfold State.popGap
  split
  next empty => exact absurd empty h
  next gaps =>
    rw [gaps]
    rfl

/-- A pop takes the head where there is one; the fault of a pop on an empty list leaves the list empty. -/
theorem State.popGap_gaps (s : State) : s.popGap.eu.gaps = s.eu.gaps.tail := by
  by_cases empty : s.eu.gaps = []
  · rw [State.popGap_empty empty, empty]
    exact empty
  · rw [State.popGap_nonempty empty]

/-! ### One record handed over -/

theorem State.recordGap_gaps_room {s : State} (room : s.eu.gaps.length ≤ 15) (g : GapRecord) :
    (s.recordGap g).eu.gaps = s.eu.gaps ++ [g] := by
  have kept : [g].take (16 - s.eu.gaps.length) = [g] :=
    List.take_of_length_le (by rw [List.length_singleton]; omega)
  rw [← kept]
  exact (recordGaps_exact [g] s).1

theorem State.recordGap_gaps_full {s : State} (full : s.eu.gaps.length = 16) (g : GapRecord) :
    (s.recordGap g).eu.gaps = s.eu.gaps := by
  simpa [full] using (recordGaps_exact [g] s).1

/-- A record that finds the list full raises GAP_OVERFLOW (R158). -/
theorem State.recordGap_overflow {s : State} (full : s.eu.gaps.length = 16) (g : GapRecord) :
    (s.recordGap g).eu.sticky.getLsbD 10 = true := by
  simpa [full] using (recordGaps_exact [g] s).2

/-! ### The level event, the link-down clear and the device reset -/

/-- GAP_READY, bit 9, is a level: it stands while the list holds a record (R152, R159). -/
theorem State.gapReady_iff (s : State) : s.evtRaw.getLsbD 9 = true ↔ s.eu.gaps ≠ [] := by
  simp [State.evtRaw, stickyMask]

/-- The link-down clear changes nothing of the Event Unit but the sticky bits, where a survey it stops raises
SURVEY_DONE (R34, R75). -/
theorem State.linkDownClear_eu (s : State) :
    s.linkDownClear.eu = { s.eu with sticky := s.linkDownClear.eu.sticky } := by
  unfold State.linkDownClear
  rw [State.clearBlocks_eu]
  unfold State.stopSurvey
  split <;> rfl

theorem State.deviceReset_evtRaw (s : State) : s.deviceReset.evtRaw = 0 :=
  (by decide : State.reset.evtRaw = 0)

/-! ### A pop and a record in either order -/

/-- Between the ends of the list a pop and a record touch different ends, so their order does not show (R159). -/
theorem State.popGap_recordGap_comm {s : State} (room : s.eu.gaps.length ≤ 15) (nonempty : s.eu.gaps ≠ [])
    (g : GapRecord) : (s.recordGap g).popGap.eu.gaps = (s.popGap.recordGap g).eu.gaps := by
  have room_left : s.popGap.eu.gaps.length ≤ 15 := by
    rw [State.popGap_gaps, List.length_tail]
    omega
  calc (s.recordGap g).popGap.eu.gaps
      = (s.eu.gaps ++ [g]).tail := by rw [State.popGap_gaps, State.recordGap_gaps_room room]
    _ = s.eu.gaps.tail ++ [g] := List.tail_append_of_ne_nil nonempty
    _ = (s.popGap.recordGap g).eu.gaps := by rw [State.recordGap_gaps_room room_left, State.popGap_gaps]

/-- On an empty list a record handed over first is popped, and one handed over after the pop stays (R159). -/
theorem State.popGap_recordGap_empty {s : State} (empty : s.eu.gaps = []) (g : GapRecord) :
    (s.recordGap g).popGap.eu.gaps = [] ∧ (s.popGap.recordGap g).eu.gaps = [g] := by
  have none_left : s.popGap.eu.gaps = [] := by rw [State.popGap_gaps, empty, List.tail_nil]
  constructor
  · rw [State.popGap_gaps, State.recordGap_gaps_room (by simp [empty]), empty]
    rfl
  · rw [State.recordGap_gaps_room (by simp [none_left]), none_left]
    rfl

/-- On a full list a pop first makes room for the record, and a record first is discarded with GAP_OVERFLOW (R158, R159). -/
theorem State.popGap_recordGap_full {s : State} (full : s.eu.gaps.length = 16) (g : GapRecord) :
    (s.popGap.recordGap g).eu.gaps = s.eu.gaps.tail ++ [g] ∧ (s.recordGap g).popGap.eu.gaps = s.eu.gaps.tail ∧
      (s.recordGap g).popGap.eu.sticky.getLsbD 10 = true := by
  have unchanged := State.recordGap_gaps_full full g
  refine ⟨?_, ?_, ?_⟩
  · rw [State.recordGap_gaps_room (by rw [State.popGap_gaps, List.length_tail]; omega), State.popGap_gaps]
  · rw [State.popGap_gaps, unchanged]
  · have nonempty : (s.recordGap g).eu.gaps ≠ [] := by
      rw [unchanged]
      exact List.ne_nil_of_length_eq_add_one full
    rw [State.popGap_nonempty nonempty]
    exact State.recordGap_overflow full g

/-- Settles O14: a pop by whether the list holds a record, and the two orders of a pop and a record by the length of the
list. -/
theorem gapPopTakesHead : Obligations.GapPopTakesHead := by
  refine ⟨fun s alive => ⟨fun g rest gaps => ?_, fun empty => ?_⟩, fun s g => ⟨fun room nonempty => ?_, fun empty => ?_,
    fun full => ?_⟩, fun s => ⟨?_, rfl, s.deviceReset_evtRaw⟩⟩
  · have popped : exec .gapPop s = .next { s with eu := { s.eu with gaps := rest } } := by
      rw [exec_gapPop_alive alive, State.popGap_nonempty (by rw [gaps]; nofun), gaps, List.tail_cons]
    refine ⟨popped, fun x taken => ?_⟩
    rw [popped] at taken
    cases taken
    exact State.gapReady_iff _
  · rw [exec_gapPop_alive alive, State.popGap_empty empty]
  · exact State.popGap_recordGap_comm room nonempty g
  · exact State.popGap_recordGap_empty empty g
  · exact State.popGap_recordGap_full full g
  · rw [State.linkDownClear_eu]

end Sys2Proof.Machine
end

section
/-! PROOFS. The event enables, the pending values and the interrupt line (R153, R154). -/
namespace Sys2Proof.Machine

/-! ### The enable writes while the part is not held -/

theorem exec_evtEnable_alive {s : State} (h : s.held = false) (w : Word) :
    exec (.evtEnable w) s = .next (s.writeEvtEnable w) :=
  congrArg _ (State.whenAlive_alive h (·.writeEvtEnable w))

theorem exec_sevtEnable_alive {s : State} (h : s.held = false) (w : Word) :
    exec (.sevtEnable w) s = .next (s.writeSevtEnable w) :=
  congrArg _ (State.whenAlive_alive h (·.writeSevtEnable w))

/-- The raw device events do not depend on the enables. -/
theorem State.writeEvtEnable_evtRaw (s : State) (w : Word) : (s.writeEvtEnable w).evtRaw = s.evtRaw := rfl

/-- The raw stream events do not depend on the enables. -/
theorem State.writeSevtEnable_sevtRaw (s : State) (w : Word) : (s.writeSevtEnable w).sevtRaw = s.sevtRaw := rfl

/-! ### The registers -/

theorem decodeOffset_evtEnable : decodeOffset 0x044 = some .evtEnable := by decide

theorem decodeOffset_evtPending : decodeOffset 0x048 = some .evtPending := by decide

theorem decodeOffset_sevtEnable : decodeOffset 0x054 = some .sevtEnable := by decide

theorem decodeOffset_sevtPending : decodeOffset 0x058 = some .sevtPending := by decide

/-- A field placed at bit 0 is its value in a word of zeros. -/
theorem place_zero {k : Nat} (x : BitVec k) : place 0 x = x.setWidth 32 := BitVec.shiftLeft_zero _

/-! ### The interrupt line -/

theorem ne_zero_iff_exists_getLsbD {w : Nat} {x : BitVec w} : x ≠ 0 ↔ ∃ i, i < w ∧ x.getLsbD i = true := by
  simp [BitVec.eq_of_getLsbD_eq_iff]

theorem State.irq_iff (s : State) : s.irq = true ↔ s.evtPending ≠ 0 ∨ s.sevtPending ≠ 0 := by
  simp [State.irq]

/-- With no event enabled the line is low. -/
theorem State.irq_of_disabled {s : State} (noDevice : s.eu.enable = 0) (noStream : s.eu.senable = 0) :
    s.irq = false := by
  have device : s.evtPending = 0 := by rw [State.evtPending, noDevice]; exact BitVec.and_zero
  have stream : s.sevtPending = 0 := by rw [State.sevtPending, noStream]; exact BitVec.and_zero
  exact Bool.eq_false_of_not_eq_true fun asserted =>
    (s.irq_iff.1 asserted).elim (· device) (· stream)

/-- While the part is not held the pin carries the line. -/
theorem State.irqPin_alive {s : State} (h : s.held = false) : s.irqPin = s.irq := by
  rw [State.irqPin, h, Bool.not_false, Bool.true_and]

/-- A low line leaves the pin low, whether or not the part is held. -/
theorem State.irqPin_of_irq_low {s : State} (low : s.irq = false) : s.irqPin = false := by
  rw [State.irqPin, low, Bool.and_false]

/-- Settles O11: an enable is a register of its own beside the raw events; the line asks for a set bit of either pending
value, and a device reset leaves no event enabled. -/
theorem enablesAndInterrupt : Obligations.EnablesAndInterrupt := by
  refine ⟨fun s w alive => ⟨?_, ?_, ?_, ?_, ?_, ?_⟩, fun s alive => ⟨?_, ?_, ?_, ?_⟩, fun s => ⟨rfl, rfl, ?_, ?_⟩,
    fun s => ?_, fun s alive => State.irqPin_alive alive, fun s => ?_⟩
  · exact exec_evtEnable_alive alive w
  · exact exec_sevtEnable_alive alive w
  · exact s.writeEvtEnable_evtRaw w
  · exact s.writeSevtEnable_sevtRaw w
  · exact exec_registerWrite_all alive decodeOffset_evtPending w
  · exact exec_registerWrite_all alive decodeOffset_sevtPending w
  · exact (State.windowRead_alive alive decodeOffset_evtEnable).trans (place_zero _)
  · exact (State.windowRead_alive alive decodeOffset_sevtEnable).trans (place_zero _)
  · exact (State.windowRead_alive alive decodeOffset_evtPending).trans (place_zero _)
  · exact (State.windowRead_alive alive decodeOffset_sevtPending).trans (place_zero _)
  · rw [State.linkDownClear_eu]
  · rw [State.linkDownClear_eu]
  · rw [State.irq_iff, ne_zero_iff_exists_getLsbD, ne_zero_iff_exists_getLsbD]
  · have low : s.deviceReset.irq = false := State.irq_of_disabled rfl rfl
    exact ⟨low, State.irqPin_of_irq_low low⟩

end Sys2Proof.Machine
end

section
/-! PROOFS. Every list stays within its places, with a free completion place for the request in flight (R85, R143, R145,
R149, R158). -/
namespace Sys2Proof.Machine

/-! ### The link-down clear, block by block -/

@[simp] theorem State.linkDownClear_fe (s : State) : s.linkDownClear.fe = s.fe.linkDownClear := by
  simp [State.linkDownClear]
@[simp] theorem State.linkDownClear_cx (s : State) : s.linkDownClear.cx = s.cx.linkDownClear := by
  simp [State.linkDownClear]
@[simp] theorem State.linkDownClear_nd (s : State) : s.linkDownClear.nd = Directory.allFree := rfl
@[simp] theorem State.linkDownClear_sv (s : State) : s.linkDownClear.sv = s.stopSurvey.sv := rfl
@[simp] theorem State.linkDownClear_sm (s : State) : s.linkDownClear.sm = s.sm.linkDownClear := by
  simp [State.linkDownClear]
@[simp] theorem State.linkDownClear_ce (s : State) : s.linkDownClear.ce = s.ce.linkDownClear := by
  simp [State.linkDownClear]
@[simp] theorem State.linkDownClear_su (s : State) : s.linkDownClear.su = s.su.linkDownClear := by
  simp [State.linkDownClear]
@[simp] theorem State.linkDownClear_rq (s : State) : s.linkDownClear.rq = s.rq.linkDownClear := by
  simp [State.linkDownClear]
@[simp] theorem State.linkDownClear_gaps (s : State) : s.linkDownClear.eu.gaps = s.eu.gaps := by
  rw [State.linkDownClear_eu]

/-! ### The request in flight -/

theorem State.headInFlight_iff {s : State} :
    s.headInFlight = true ↔ ∃ r, s.cx.inFlight = some r ∧ r.source = .request := by
  unfold State.headInFlight
  cases s.cx.inFlight <;> simp

theorem State.headInFlight_none {s : State} (h : s.cx.inFlight = none) : s.headInFlight = false := by
  simp [State.headInFlight, h]

theorem State.headInFlight_congr {s t : State} (h : t.cx.inFlight = s.cx.inFlight) :
    t.headInFlight = s.headInFlight := by
  simp [State.headInFlight, h]

theorem State.headInFlight_grant (s : State) (src : Source) (target : Target) (c : LinkCommand) :
    (s.grant src target c).headInFlight = decide (src = .request) := rfl

/-! ### What the invariant looks at -/

/-- The part of the state that the invariant looks at: the four lists and the command in progress. -/
def State.listView (s : State) : List Request × List Completion × List Change × List GapRecord × Option InFlight :=
  (s.rq.queue, s.rq.completions, s.cl.list, s.eu.gaps, s.cx.inFlight)

section
variable {s t : State}

theorem State.ListsBounded.of_same (h : s.ListsBounded) (same : t.listView = s.listView) : t.ListsBounded := by
  simp only [State.listView, Prod.mk.injEq] at same
  obtain ⟨queue, completions, changes, gaps, inFlight⟩ := same
  constructor
  · rw [queue]
    exact h.requests
  · rw [completions]
    exact h.completions
  · rw [changes]
    exact h.changes
  · rw [gaps]
    exact h.gaps
  · rw [queue, completions, State.headInFlight_congr inFlight]
    exact h.headKept

/-- The request queue and its completions as they were, and no request newly in flight. -/
theorem State.ListsBounded.of_sameQueue (h : s.ListsBounded) (rq : t.rq = s.rq)
    (changes : t.cl.list.length ≤ Config.changeListSize) (gaps : t.eu.gaps.length ≤ Config.gapListSize)
    (head : t.headInFlight = true → s.headInFlight = true) : t.ListsBounded where
  requests := by
    rw [rq]
    exact h.requests
  completions := by
    rw [rq]
    exact h.completions
  changes := changes
  gaps := gaps
  headKept flying := by
    rw [rq]
    exact h.headKept (head flying)

/-- Where no request is in flight each list needs only its own bound. -/
theorem State.listsBounded_of_noHead (noHead : t.headInFlight = false)
    (requests : t.rq.queue.length ≤ Config.requestQueueSize)
    (completions : t.rq.completions.length ≤ Config.completionListSize)
    (changes : t.cl.list.length ≤ Config.changeListSize) (gaps : t.eu.gaps.length ≤ Config.gapListSize) :
    t.ListsBounded where
  requests := requests
  completions := completions
  changes := changes
  gaps := gaps
  headKept flying := by
    rw [noHead] at flying
    cases flying

theorem State.ListsBounded.noInFlight (h : s.ListsBounded) : (s.setCx { s.cx with inFlight := none }).ListsBounded :=
  h.of_sameQueue rfl h.changes h.gaps nofun

theorem State.listsBounded_deviceReset (s : State) : s.deviceReset.ListsBounded :=
  State.listsBounded_of_noHead rfl (Nat.zero_le _) (Nat.zero_le _) (Nat.zero_le _) (Nat.zero_le _)

/-! ### The host's writes -/

theorem State.listView_linkStart (s : State) : s.linkStart.listView = s.listView := by
  unfold State.linkStart
  split <;> rfl

theorem State.listView_stopCommit (s : State) : s.stopCommit.listView = s.listView := by
  unfold State.stopCommit
  (repeat' split) <;> rfl

theorem State.listView_linkStop (s : State) : s.linkStop.listView = s.listView := by
  unfold State.linkStop
  split
  · exact State.listView_stopCommit _
  · exact State.listView_stopCommit _
  all_goals rfl

theorem State.listView_writeLinkCfg (s : State) (w : Word) : (s.writeLinkCfg w).listView = s.listView := by
  unfold State.writeLinkCfg
  (repeat' split) <;> rfl

theorem State.listView_writeXchgCfg (s : State) (w : Word) : (s.writeXchgCfg w).listView = s.listView := by
  unfold State.writeXchgCfg
  (repeat' split) <;> rfl

theorem State.listView_surveyStart (s : State) : s.surveyStart.listView = s.listView := by
  unfold State.surveyStart
  split <;> rfl

theorem State.listView_writeCommit (s : State) (m : Option CommitMode) : (s.writeCommit m).listView = s.listView := by
  unfold State.writeCommit State.commitApply
  (repeat' split) <;> rfl

theorem State.listView_writeStreamCfg (s : State) (n : Fin 8) (w : Word) :
    (s.writeStreamCfg n w).listView = s.listView := by
  unfold State.writeStreamCfg
  (repeat' split) <;> rfl

theorem State.listView_readPort (s : State) (n : Fin 8) : (s.readPort n).listView = s.listView := by
  unfold State.readPort
  (repeat' split) <;> rfl

theorem State.listView_writePort (s : State) (n : Fin 8) (w : Word) : (s.writePort n w).listView = s.listView := by
  unfold State.writePort
  (repeat' split) <;> rfl

theorem State.ListsBounded.popGap (h : s.ListsBounded) : s.popGap.ListsBounded := by
  unfold State.popGap
  split
  · exact h.of_same rfl
  next g rest gaps =>
    have bound := h.gaps
    rw [gaps] at bound
    exact h.of_sameQueue rfl h.changes (Nat.le_of_succ_le bound) id

theorem State.ListsBounded.recordGap (h : s.ListsBounded) (g : GapRecord) : (s.recordGap g).ListsBounded := by
  unfold State.recordGap
  split
  next room => exact h.of_sameQueue rfl h.changes (by simpa using room) id
  · exact h.of_same rfl

theorem State.ListsBounded.enableStream (h : s.ListsBounded) (n : Fin 8) : (s.enableStream n).ListsBounded := by
  unfold State.enableStream
  split
  · exact h
  · split
    · exact h.of_same rfl
    · have enabled : (s.setStream n ((s.stream n).enable (liveSlots s.sm.active s.nd n))).ListsBounded := h.of_same rfl
      exact enabled.recordGap _

theorem State.ListsBounded.writeStreamCtrl (h : s.ListsBounded) (n : Fin 8) (enable disable dma : Bool) :
    (s.writeStreamCtrl n enable disable dma).ListsBounded := by
  have dma : (s.setDma n dma).ListsBounded := h.of_same rfl
  unfold State.writeStreamCtrl
  split
  · exact h.of_same rfl
  · exact dma.enableStream n
  · exact h.of_same rfl
  · exact h.of_same rfl

theorem State.ListsBounded.appendChange (h : s.ListsBounded) : s.appendChange.ListsBounded := by
  unfold State.appendChange
  split
  · exact h.of_same rfl
  · split
    · exact h.of_same rfl
    next room =>
      split
      · exact h.of_same rfl
      · exact h.of_sameQueue rfl (by simpa using Nat.lt_of_not_le room) h.gaps id

theorem State.ListsBounded.clearChanges (h : s.ListsBounded) : s.clearChanges.ListsBounded := by
  unfold State.clearChanges
  split
  · exact h.of_same rfl
  · exact h.of_sameQueue rfl (Nat.zero_le _) h.gaps id

theorem State.ListsBounded.submitRequest (h : s.ListsBounded) : s.submitRequest.ListsBounded := by
  unfold State.submitRequest
  split
  · exact h.of_same rfl
  next room =>
    split
    · exact h.of_same rfl
    · exact
        { requests := by simpa using Nat.lt_of_not_le room
          completions := h.completions
          changes := h.changes
          gaps := h.gaps
          headKept := fun flying => ⟨by simp, (h.headKept flying).2⟩ }

/-- A flush leaves the request in flight at the head of its queue (R144). -/
theorem State.ListsBounded.flushRequests (h : s.ListsBounded) : s.flushRequests.ListsBounded := by
  have kept : s.flushKeeps.length ≤ s.rq.queue.length := by
    unfold State.flushKeeps
    split <;> simp
  exact
    { requests := kept.trans h.requests
      completions := h.completions
      changes := h.changes
      gaps := h.gaps
      headKept := fun flying => by
        have flying : s.headInFlight = true := flying
        have head : s.flushRequests.rq.queue = s.rq.queue.take 1 := if_pos flying
        exact ⟨by simpa [head] using (h.headKept flying).1, (h.headKept flying).2⟩ }

theorem State.ListsBounded.popCompletion (h : s.ListsBounded) : s.popCompletion.ListsBounded := by
  unfold State.popCompletion
  split
  · exact h.of_same rfl
  next c rest completions =>
    have shorter : rest.length < s.rq.completions.length := by rw [completions]; exact Nat.lt_succ_self _
    exact
      { requests := h.requests
        completions := shorter.le.trans h.completions
        changes := h.changes
        gaps := h.gaps
        headKept := fun flying => ⟨(h.headKept flying).1, shorter.trans (h.headKept flying).2⟩ }

/-! ### The link-down clear -/

theorem State.listsBounded_linkDownClear (completions : s.rq.completions.length ≤ Config.completionListSize)
    (changes : s.cl.list.length ≤ Config.changeListSize) (gaps : s.eu.gaps.length ≤ Config.gapListSize) :
    s.linkDownClear.ListsBounded := by
  refine State.listsBounded_of_noHead (State.headInFlight_none ?_) ?_ ?_ ?_ ?_
  · rw [State.linkDownClear_cx]
    rfl
  · rw [State.linkDownClear_rq]
    exact Nat.zero_le _
  · rw [State.linkDownClear_rq]
    exact completions
  · rw [State.linkDownClear_cl]
    exact changes
  · rw [State.linkDownClear_gaps]
    exact gaps

theorem State.ListsBounded.enterDown (h : s.ListsBounded) : s.enterDown.ListsBounded :=
  (State.listsBounded_linkDownClear h.completions h.changes h.gaps).of_same rfl

theorem State.ListsBounded.faultClear (h : s.ListsBounded) : s.faultClear.ListsBounded := by
  unfold State.faultClear
  split
  · exact h.enterDown
  · exact h

/-- The place kept for the request in flight takes its completion LINK_DOWN (R150). -/
theorem State.ListsBounded.failInFlightRequest (h : s.ListsBounded) :
    s.failInFlightRequest.rq.completions.length ≤ Config.completionListSize := by
  unfold State.failInFlightRequest
  split
  next r inFlight =>
    split
    next source _ =>
      simpa using (h.headKept (State.headInFlight_iff.2 ⟨r, inFlight, source⟩)).2
    · exact h.completions
  · exact h.completions

theorem State.failCommit_gaps (s : State) : s.failCommit.eu.gaps = s.eu.gaps := by
  unfold State.failCommit
  split <;> rfl

theorem State.ListsBounded.enterFault (h : s.ListsBounded) : s.enterFault.ListsBounded := by
  have cleared : s.failInFlightRequest.failCommit.linkDownClear.ListsBounded := by
    refine State.listsBounded_linkDownClear ?_ ?_ ?_
    · rw [State.failCommit_rq]
      exact h.failInFlightRequest
    · rw [State.failCommit_cl, State.failInFlightRequest_cl]
      exact h.changes
    · rw [State.failCommit_gaps, State.failInFlightRequest_eu]
      exact h.gaps
  exact cleared.of_same rfl

theorem State.ListsBounded.contention (h : s.ListsBounded) : s.contention.ListsBounded := by
  unfold State.contention
  dsimp only
  split
  · exact State.ListsBounded.enterFault (h.of_same rfl)
  · exact h.of_same rfl

/-! ### The command field -/

theorem State.listView_fixSwitchFrame (s : State) : s.fixSwitchFrame.listView = s.listView := by
  simp only [State.listView, State.fixSwitchFrame_rq, State.fixSwitchFrame_cl, State.fixSwitchFrame_eu,
    State.fixSwitchFrame_cx]

theorem State.listView_placeField (s : State) : s.placeField.listView = s.listView := by
  unfold State.placeField
  split
  · exact s.listView_fixSwitchFrame
  · rfl

theorem State.listView_countCopy (s : State) : s.countCopy.listView = s.listView := by
  unfold State.countCopy
  split <;> rfl

theorem State.ListsBounded.concludeBroadcast (h : s.ListsBounded) : s.concludeBroadcast.ListsBounded := by
  unfold State.concludeBroadcast
  split
  · split
    · exact h.noInFlight.of_same (State.listView_countCopy _)
    · exact h
    · exact h
  · exact h

theorem State.ListsBounded.fieldSent (h : s.ListsBounded) : s.fieldSent.ListsBounded := by
  unfold State.fieldSent
  split
  · exact (State.ListsBounded.concludeBroadcast (h.of_same s.listView_placeField)).of_same rfl
  · exact h

/-! ### The arbiter -/

theorem State.ListsBounded.grant (h : s.ListsBounded) {src : Source} (notRequest : src ≠ .request) (target : Target)
    (c : LinkCommand) : (s.grant src target c).ListsBounded :=
  h.of_sameQueue rfl h.changes h.gaps fun flying => by
    rw [State.headInFlight_grant] at flying
    exact absurd (of_decide_eq_true flying) notRequest

theorem State.ListsBounded.grantStaging (h : s.ListsBounded) : s.grantStaging.ListsBounded := by
  unfold State.grantStaging
  split
  · exact h
  · exact h.grant (by nofun) _ _

theorem State.ListsBounded.grantCopy (h : s.ListsBounded) (c : LinkCommand) : (s.grantCopy c).ListsBounded := by
  unfold State.grantCopy
  split
  · exact h.grant (by nofun) _ _
  · exact h

theorem State.ListsBounded.validatePending (h : s.ListsBounded) : s.validatePending.ListsBounded := by
  have emptied : (s.setCl { s.cl with list := [] }).ListsBounded := h.of_sameQueue rfl (Nat.zero_le _) h.gaps id
  unfold State.validatePending
  split
  · exact State.ListsBounded.grantStaging (h.of_same rfl)
  · exact emptied.of_same rfl
  · exact h.of_same rfl
  · exact h.of_same rfl
  · exact h.of_same rfl

theorem State.ListsBounded.offerCommit (h : s.ListsBounded) : s.offerCommit.ListsBounded := by
  unfold State.offerCommit
  split
  · exact h
  · split
    · exact h.validatePending
    · exact h
  · split
    · exact h.grantStaging
    · exact h
  · exact h.grantCopy _
  · exact h.grantCopy _

theorem State.ListsBounded.offerSurvey (h : s.ListsBounded) : s.offerSurvey.ListsBounded := by
  unfold State.offerSurvey
  split
  · split
    · exact h.grant (by nofun) _ _
    · exact h
  · exact h

/-- A request settled where the completion list has room (R145). -/
theorem State.ListsBounded.settle (h : s.ListsBounded) (noCommand : s.cx.inFlight = none)
    (room : s.rq.completions.length < Config.completionListSize) (q : Request) (o : CplOutcome) (frees : Bool) :
    (s.settle q o frees).ListsBounded := by
  have rq : ∀ u : State, u.rq = s.rq → (u.complete q o none 0).rq.queue = s.rq.queue.tail ∧
      (u.complete q o none 0).rq.completions.length = s.rq.completions.length + 1 := by
    intro u e
    simp [e]
  have settled := rq (if frees = true then s.freeEntry q.addr else s) (by split <;> rfl)
  refine State.listsBounded_of_noHead (State.headInFlight_none ?_) ?_ ?_ ?_ ?_
  · rw [State.settle_cx]
    exact noCommand
  · have bound := h.requests
    rw [State.settle, settled.1, List.length_tail]
    omega
  · rw [State.settle, settled.2]
    exact room
  · rw [State.settle_cl]
    exact h.changes
  · rw [State.settle_eu]
    exact h.gaps

/-- A request is sent only while the completion list has room for its completion (R145). -/
theorem State.ListsBounded.issueRequests (fuel : Nat) {s : State} (h : s.ListsBounded)
    (noCommand : s.cx.inFlight = none) : (State.issueRequests fuel s).ListsBounded := by
  induction fuel generalizing s with
  | zero => exact h
  | succ fuel ih =>
    unfold State.issueRequests
    split
    · exact h
    next room =>
      have room : s.rq.completions.length < Config.completionListSize := Nat.lt_of_not_le room
      split
      · exact h
      next q rest queue =>
        split
        · exact ih (h.settle noCommand room q _ _) (by rw [State.settle_cx]; exact noCommand)
        · exact
            { requests := h.requests
              completions := h.completions
              changes := h.changes
              gaps := h.gaps
              headKept := fun _ => ⟨by rw [State.grant_rq, queue]; exact List.cons_ne_nil q rest, room⟩ }

theorem State.ListsBounded.offerRequests (h : s.ListsBounded) (noCommand : s.cx.inFlight = none) :
    s.offerRequests.ListsBounded := by
  unfold State.offerRequests
  split
  · exact h.issueRequests _ noCommand
  · exact h

theorem State.ListsBounded.offerKeepalive (h : s.ListsBounded) : s.offerKeepalive.ListsBounded := by
  unfold State.offerKeepalive
  split
  · split
    next a _ =>
      have scanned : (s.setCx { s.cx with scan := a.val + 1 }).ListsBounded := h.of_same rfl
      exact scanned.grant (by nofun) _ _
    · exact h
  · exact h

theorem State.ListsBounded.offerTo (h : s.ListsBounded) {f : State → State}
    (free : s.cx.inFlight = none → (f s).ListsBounded) : (s.offerTo f).ListsBounded := by
  unfold State.offerTo
  split
  · exact h
  next none => exact free (by simpa using none)

theorem State.ListsBounded.settleField (h : s.ListsBounded) : s.settleField.ListsBounded := by
  have commit := h.offerTo fun _ => h.offerCommit
  have survey := commit.offerTo fun _ => commit.offerSurvey
  have requests := survey.offerTo survey.offerRequests
  exact requests.offerTo fun _ => requests.offerKeepalive

/-! ### A frame's start and end -/

theorem State.ListsBounded.formMap (h : s.ListsBounded) : s.formMap.ListsBounded := by
  unfold State.formMap
  dsimp only
  split
  · exact h.of_sameQueue rfl (Nat.zero_le _) h.gaps id
  · exact h.of_same rfl

/-- Records handed over in order leave the gap list within its places (R158). -/
theorem length_append_take_le {gaps records : List GapRecord} (h : gaps.length ≤ 16) :
    (gaps ++ records.take (16 - gaps.length)).length ≤ Config.gapListSize := by
  have bound := List.length_take_le (16 - gaps.length) records
  rw [List.length_append, Config.gapListSize]
  omega

theorem State.ListsBounded.startStreams (h : s.ListsBounded) : s.startStreams.ListsBounded := by
  refine h.of_sameQueue s.startStreams_rq ?_ ?_ fun flying => ?_
  · rw [State.startStreams_cl]
    exact h.changes
  · rw [s.startStreams_exact.1]
    exact length_append_take_le h.gaps
  · rwa [State.headInFlight_congr (congrArg Exchange.inFlight s.startStreams_cx)] at flying

theorem State.ListsBounded.endStreams (h : s.ListsBounded) (p : List Bool) : (s.endStreams p).ListsBounded := by
  refine h.of_sameQueue (s.endStreams_rq p) ?_ ?_ fun flying => ?_
  · rw [State.endStreams_cl]
    exact h.changes
  · rw [(s.endStreams_exact p).1]
    exact length_append_take_le h.gaps
  · rwa [State.headInFlight_congr (congrArg Exchange.inFlight (s.endStreams_cx p))] at flying

theorem State.ListsBounded.workFrame (h : s.ListsBounded) : s.workFrame.ListsBounded := by
  unfold State.workFrame
  dsimp only
  split
  · exact h.formMap.startStreams.settleField
  · exact h.formMap.settleField

theorem State.listView_countSync (s : State) : s.countSync.listView = s.listView := by
  unfold State.countSync
  dsimp only
  split <;> rfl

theorem State.ListsBounded.startFrame (h : s.ListsBounded) : s.startFrame.ListsBounded := by
  have next : s.nextFrame.ListsBounded := h.of_same rfl
  have synced : s.nextFrame.countSync.ListsBounded := next.of_same (State.listView_countSync _)
  unfold State.startFrame
  dsimp only
  split
  · split
    · exact synced.workFrame
    · exact synced
  · exact next.workFrame
  · exact next.workFrame
  · exact h
  · exact h

theorem State.ListsBounded.drainStep (h : s.ListsBounded) : s.drainStep.ListsBounded := by
  unfold State.drainStep
  split
  · split
    · exact h.enterDown
    · exact h.of_same rfl
  · split
    · exact h.of_same rfl
    · exact h

theorem State.ListsBounded.endFrame (h : s.ListsBounded) (p : List Bool) : (s.endFrame p).ListsBounded := by
  have ended : (s.fieldSent.setFe { s.fieldSent.fe with pos := .ended }).ListsBounded := h.fieldSent.of_same rfl
  unfold State.endFrame
  extract_lets _ _ _ served
  have delivered : served.ListsBounded := by
    unfold served
    split
    · exact ended.endStreams p
    · exact ended
  split
  · exact delivered.drainStep
  · exact delivered

/-! ### Outcomes -/

theorem State.listView_commitOutcome (s : State) (t : Target) (o : CmdOutcome) :
    (s.commitOutcome t o).listView = s.listView := by
  unfold State.commitOutcome State.stagingAck
  (repeat' split) <;> rfl

theorem State.listView_surveyWouldEnd (s : State) (o : SurveyOutcome) :
    (s.surveyWouldEnd o).listView = s.listView := by
  unfold State.surveyWouldEnd
  split <;> rfl

theorem State.listView_bindEntry (s : State) : s.bindEntry.listView = s.listView := by
  unfold State.bindEntry
  split <;> rfl

theorem State.listView_electionFailure (s : State) : s.electionFailure.listView = s.listView := by
  unfold State.electionFailure
  dsimp only
  split
  · exact State.listView_surveyWouldEnd _ _
  · rfl

theorem State.listView_makeReady (s : State) (a : NodeAddr) (data : BitVec 16) :
    (s.makeReady a data).listView = s.listView := by
  unfold State.makeReady
  split <;> rfl

theorem State.listView_bindingFailed (s : State) (a : NodeAddr) : (s.bindingFailed a).listView = s.listView := by
  unfold State.bindingFailed State.loseBinding
  split <;> rfl

theorem State.listView_surveyOutcome (s : State) (r : InFlight) (o : CmdOutcome) (data : BitVec 16) :
    (s.surveyOutcome r o data).listView = s.listView := by
  unfold State.surveyOutcome
  split
  · split
    · exact s.listView_bindEntry
    · exact s.listView_electionFailure
  · split
    · split
      · rfl
      · exact s.listView_makeReady _ data
    · exact s.listView_bindingFailed _
  · rfl

theorem State.listView_moveEntry (s : State) (q : Request) (o : CmdOutcome) : (s.moveEntry q o).listView = s.listView := by
  unfold State.moveEntry
  (repeat' split) <;> rfl

/-- The completion of a request in flight takes the place kept for it (R145, R147). -/
theorem State.ListsBounded.requestOutcome (h : s.ListsBounded) (noCommand : s.cx.inFlight = none)
    (room : s.rq.completions.length < Config.completionListSize) (o : CmdOutcome) (data : BitVec 16) (attempts : Nat) :
    (s.requestOutcome o data attempts).ListsBounded := by
  unfold State.requestOutcome
  split
  next q rest queue =>
    have moved := h.of_same (s.listView_moveEntry q o)
    refine State.listsBounded_of_noHead (State.headInFlight_none ?_) ?_ ?_ moved.changes moved.gaps
    · rw [State.complete_cx, State.moveEntry_cx]
      exact noCommand
    · have bound := h.requests
      rw [State.complete_rq, State.moveEntry_rq]
      simp only [List.length_tail]
      omega
    · rw [State.complete_rq, State.moveEntry_rq]
      simpa using room
  · exact h

theorem State.ListsBounded.handOver (h : s.ListsBounded) {r : InFlight} (inFlight : s.cx.inFlight = some r)
    (o : CmdOutcome) (data : BitVec 16) : (s.handOver r o data).ListsBounded := by
  unfold State.handOver
  extract_lets _ emptied
  have held : emptied.ListsBounded := h.noInFlight
  split
  · exact held.of_same (emptied.listView_commitOutcome r.target o)
  · exact held.of_same (emptied.listView_surveyOutcome r o data)
  next source =>
    exact held.requestOutcome rfl (h.headKept (State.headInFlight_iff.2 ⟨r, inFlight, source⟩)).2 o data r.attempt
  · exact held

/-- The command in progress replaced by one of the same source. -/
theorem State.ListsBounded.setInFlight (h : s.ListsBounded) {r r' : InFlight} (inFlight : s.cx.inFlight = some r)
    (source : r'.source = r.source) : (s.setInFlight r').ListsBounded :=
  h.of_sameQueue rfl h.changes h.gaps fun flying => by
    obtain ⟨x, e, request⟩ := State.headInFlight_iff.1 flying
    cases e
    exact State.headInFlight_iff.2 ⟨r, inFlight, source ▸ request⟩

theorem State.ListsBounded.concludeStage (h : s.ListsBounded) {r : InFlight} (inFlight : s.cx.inFlight = some r)
    (o : CmdOutcome) (data : BitVec 16) : (s.concludeStage r o data).ListsBounded := by
  unfold State.concludeStage
  split
  · exact h.setInFlight inFlight rfl
  · exact h.handOver inFlight o data

theorem State.listView_markResync (s : State) (target : Target) : (s.markResync target).listView = s.listView := by
  simp only [State.listView, State.markResync_rq, State.markResync_cl, State.markResync_eu, State.markResync_cx]

theorem State.listView_loseTarget (s : State) (target : Target) : (s.loseTarget target).listView = s.listView := by
  unfold State.loseTarget
  (repeat' split) <;> rfl

theorem State.listView_noteResponse (s : State) (r : InFlight) (j : Judgement) :
    (s.noteResponse r j).listView = s.listView := by
  simp only [State.listView, State.noteResponse_rq, State.noteResponse_cl, State.noteResponse_eu,
    State.noteResponse_inFlight]

theorem State.ListsBounded.applyResult (h : s.ListsBounded) {r : InFlight} (inFlight : s.cx.inFlight = some r)
    (a : AttemptResult) : (s.applyResult r a).ListsBounded := by
  have marked : (s.markResync r.target).ListsBounded := h.of_same (s.listView_markResync _)
  have lost : (s.loseTarget r.target).ListsBounded := h.of_same (s.listView_loseTarget _)
  cases a with
  | acked d => exact h.concludeStage inFlight .ack d
  | refused d => exact h.concludeStage inFlight .refuse d
  | waitRepeat => exact h.setInFlight inFlight rfl
  | waitLimit => exact marked.concludeStage (by simpa using inFlight) .timeout 0
  | retry => exact h.setInFlight inFlight rfl
  | retriesSpent => exact marked.concludeStage (by simpa using inFlight) .noAnswer 0
  | lossLimit =>
    exact (lost.of_same (State.listView_markResync _ _)).concludeStage (by simpa using inFlight) .noAnswer 0

theorem State.listView_unsolicited (s : State) (field : BitVec 32) : (s.unsolicited field).listView = s.listView := by
  unfold State.unsolicited
  split <;> rfl

theorem State.listView_identityRead (s : State) (field : BitVec 32) : (s.identityRead field).listView = s.listView := by
  unfold State.identityRead
  split
  · exact s.listView_surveyWouldEnd _
  · split
    · rfl
    · exact s.listView_surveyWouldEnd _

theorem State.ListsBounded.applyResponse (h : s.ListsBounded) (field : BitVec 32) :
    (s.applyResponse field).ListsBounded := by
  unfold State.applyResponse
  split
  · exact h.of_same (s.listView_unsolicited field)
  next r inFlight =>
    split
    · exact h.of_same (s.listView_unsolicited field)
    · exact h.noInFlight.of_same (State.listView_identityRead _ field)
    · exact (h.of_same (s.listView_noteResponse _ _)).applyResult
        ((s.noteResponse_inFlight _ _).trans inFlight) _

theorem State.ListsBounded.respond (h : s.ListsBounded) (field : BitVec 32) : (s.respond field).ListsBounded := by
  have answered : (s.fieldSent.setFe { s.fieldSent.fe with pos := .answered }).ListsBounded := h.fieldSent.of_same rfl
  exact answered.applyResponse field

end

/-! ### Every command -/

theorem kept_listsBounded : Kept State.ListsBounded where
  reset _ _ _ := State.listsBounded_deviceReset _
  readData _ _ h := h.of_same rfl
  fault _ _ _ _ h := h.of_same rfl
  linkStart s h := h.of_same s.listView_linkStart
  linkStop s h := h.of_same s.listView_linkStop
  faultClear _ h := h.faultClear
  linkCfg s w h := h.of_same (s.listView_writeLinkCfg w)
  xchgCfg s w h := h.of_same (s.listView_writeXchgCfg w)
  linkErrors _ h := h.of_same rfl
  surveyStart s h := h.of_same s.listView_surveyStart
  commit s m h := h.of_same (s.listView_writeCommit m)
  evtClear _ _ h := h.of_same rfl
  sevtClear _ _ h := h.of_same rfl
  evtEnable _ _ h := h.of_same rfl
  sevtEnable _ _ h := h.of_same rfl
  faultRecord _ h := h.of_same rfl
  popGap _ h := h.popGap
  appendChange _ h := h.appendChange
  clearChanges _ h := h.clearChanges
  chgStage0 _ _ h := h.of_same rfl
  chgStage1 _ _ h := h.of_same rfl
  reqStage0 _ _ h := h.of_same rfl
  reqStage1 _ _ h := h.of_same rfl
  submit _ h := h.submitRequest
  flush _ h := h.flushRequests
  popCompletion _ h := h.popCompletion
  streamCfg s n w h := h.of_same (s.listView_writeStreamCfg n w)
  streamLevels _ _ _ h := h.of_same rfl
  streamCtrl _ n a b d h := h.writeStreamCtrl n a b d
  counts _ _ h := h.of_same rfl
  readPort s n h := h.of_same (s.listView_readPort n)
  writePort s n w h := h.of_same (s.listView_writePort n w)
  placeField s h := h.of_same s.listView_placeField
  fieldSent _ h := h.fieldSent
  startFrame _ _ h := h.startFrame
  cleanFrame _ _ h := h.of_same rfl
  contention _ _ h := h.contention
  endFrame _ p _ h := h.endFrame p
  respond _ f _ h := h.respond f

/-- Settles O56: each operation keeps the bounds. A request goes in flight only while the completion list has room, and no
completion but its own is written until it ends. -/
theorem stepKeepsListsBounded : Obligations.StepKeepsListsBounded := by
  intro s t h taken
  exact step_kept kept_listsBounded (fun _ _ held => held.of_same rfl) h taken

end Sys2Proof.Machine
end

section
/-! PROOFS. The pool is shared out within its entries and each request line stands at its condition (R113, R115, R139). -/
namespace Sys2Proof.Machine

/-! ### Levels of a stream -/

theorem Stream.enabled_iff {st : Stream} : st.enabled = true ↔ st.state ≠ .disabled := by
  unfold Stream.enabled
  cases st.state <;> simp

theorem Stream.not_enabled_iff {st : Stream} : st.enabled = false ↔ st.state = .disabled := by
  unfold Stream.enabled
  cases st.state <;> simp

/-- A level reached: by the fill of a capture stream, by the free count of a playback stream (R127, R139). -/
theorem Stream.reaches_iff {st : Stream} {level : BitVec 10} :
    st.reaches level = true ↔ (st.dir = .capture ∧ st.effective level ≤ st.queue.length) ∨
      (st.dir = .playback ∧ st.effective level ≤ st.capacity - st.queue.length) := by
  unfold Stream.reaches Stream.freeCount Stream.fill
  cases st.dir with
  | capture => exact decide_eq_true_iff.trans (by simp)
  | playback => exact decide_eq_true_iff.trans (by simp)

theorem Stream.serviceLevel_iff {st : Stream} :
    st.serviceLevel = true ↔ st.state ≠ .disabled ∧ ((st.dir = .capture ∧ st.effective st.service ≤ st.queue.length) ∨
      (st.dir = .playback ∧ st.effective st.service ≤ st.capacity - st.queue.length)) := by
  rw [Stream.serviceLevel, Bool.and_eq_true, Stream.enabled_iff, Stream.reaches_iff]

theorem Stream.drqLevel_iff {st : Stream} :
    st.drqLevel = true ↔ st.dma = true ∧ st.state ≠ .disabled ∧
      ((st.dir = .capture ∧ st.effective st.burst ≤ st.queue.length) ∨
        (st.dir = .playback ∧ st.effective st.burst ≤ st.capacity - st.queue.length)) := by
  rw [Stream.drqLevel, Bool.and_eq_true, Bool.and_eq_true, Stream.enabled_iff, Stream.reaches_iff, and_assoc]

theorem Stream.drqLevel_disabled {st : Stream} (h : st.state = .disabled) : st.drqLevel = false := by
  rw [Stream.drqLevel, Stream.not_enabled_iff.2 h, Bool.and_false, Bool.false_and]

/-! ### What is asked of one stream -/

/-- No more samples than the capacity, and none while disabled (R115, R119). -/
structure Stream.HoldsWithin (st : Stream) : Prop where
  fits : st.fill ≤ st.capacity
  disabledEmpty : st.enabled = false → st.queue = []

/-- The request line stands where a judgement would put it (R139). -/
def Stream.LineJudged (st : Stream) : Prop := st.drq = st.drqLevel

theorem State.poolFits_iff {s : State} :
    s.PoolFits ↔ totalCapacity s.su.streams ≤ Config.poolSize ∧ ∀ n : Fin 8, s.su.streams[n].HoldsWithin :=
  ⟨fun h => ⟨h.sum, fun n => ⟨h.fits n, h.disabledEmpty n⟩⟩,
    fun h => ⟨h.1, fun n => (h.2 n).fits, fun n => (h.2 n).disabledEmpty⟩⟩

theorem Stream.judged_lineJudged (st : Stream) : st.judged.LineJudged := rfl

/-- An enabled stream has only its fill to keep. -/
theorem Stream.holdsWithin_of_enabled {st : Stream} (enabled : st.enabled = true) (fits : st.fill ≤ st.capacity) :
    st.HoldsWithin :=
  ⟨fits, fun off => absurd (enabled.symm.trans off) nofun⟩

theorem Stream.holdsWithin_of_empty {st : Stream} (empty : st.queue = []) : st.HoldsWithin :=
  ⟨by simp [Stream.fill, empty], fun _ => empty⟩

/-- A stream's next context keeps its capacity and what is asked of it. -/
structure Stream.Follows (st st' : Stream) : Prop where
  capacity : st'.capacity = st.capacity
  within : st.HoldsWithin → st'.HoldsWithin
  line : st.LineJudged → st'.LineJudged

theorem Stream.Follows.refl (st : Stream) : st.Follows st := ⟨rfl, id, id⟩

theorem Stream.Follows.trans {a b c : Stream} (ab : a.Follows b) (bc : b.Follows c) : a.Follows c :=
  ⟨bc.capacity.trans ab.capacity, bc.within ∘ ab.within, bc.line ∘ ab.line⟩

/-- A context judged again needs only its samples looked at. -/
theorem Stream.Follows.judged {st st' : Stream} (capacity : st'.capacity = st.capacity)
    (within : st.HoldsWithin → st'.HoldsWithin) : st.Follows st'.judged :=
  ⟨capacity, fun h => ⟨(within h).fits, (within h).disabledEmpty⟩, fun _ => st'.judged_lineJudged⟩

theorem Stream.follows_levels (st : Stream) (service burst startLevel : BitVec 10) :
    st.Follows ({ st with service := service, burst := burst, startLevel := startLevel }).judged :=
  .judged rfl fun h => ⟨h.fits, h.disabledEmpty⟩

theorem Stream.follows_dma (st : Stream) (dma : Bool) : st.Follows ({ st with dma := dma }).judged :=
  .judged rfl fun h => ⟨h.fits, h.disabledEmpty⟩

theorem Stream.follows_counts (st : Stream) : st.Follows { st with overruns := 0, underruns := 0 } :=
  ⟨rfl, fun h => ⟨h.fits, h.disabledEmpty⟩, id⟩

theorem Stream.follows_live (st : Stream) (live : List (Fin 32)) (sinceStart : Bool) :
    st.Follows { st with live := live, sinceStart := sinceStart } :=
  ⟨rfl, fun h => ⟨h.fits, h.disabledEmpty⟩, id⟩

theorem Stream.follows_enable (st : Stream) (live : List (Fin 32)) : st.Follows (st.enable live) :=
  .judged rfl fun _ => Stream.holdsWithin_of_empty rfl

theorem Stream.follows_disable (st : Stream) : st.Follows st.disable := by
  unfold Stream.disable
  split
  · exact .judged rfl fun _ => Stream.holdsWithin_of_empty rfl
  · exact .refl st

/-- A read takes samples away (R132, R133). -/
theorem Stream.follows_captureRead {st : Stream} (enabled : st.enabled = true) : st.Follows st.captureRead.2.1 := by
  have shorter : ∀ (rest : List Sample) (half : Bool), rest.length ≤ st.queue.length →
      st.Follows ({ st with queue := rest, half := half }).judged := fun rest half le =>
    .judged rfl fun h => Stream.holdsWithin_of_enabled enabled (le.trans h.fits)
  unfold Stream.captureRead
  split
  · split
    next queue => exact shorter _ false (by rw [queue, List.length_cons, List.length_cons]; omega)
    · exact shorter [] true (Nat.zero_le _)
    · exact .refl st
  · split
    next queue => exact shorter _ st.half (by rw [queue, List.length_cons]; omega)
    · exact .refl st

/-- A write adds no more samples than there are free entries (R134, R135). -/
theorem Stream.follows_playbackWrite {st : Stream} (enabled : st.enabled = true) (w : Word) :
    st.Follows (st.playbackWrite w).1 := by
  have longer : ∀ (new : List Sample) (half : Bool), new.length ≤ st.freeCount →
      st.Follows ({ st with queue := st.queue ++ new, half := half }).judged := fun new half le =>
    .judged rfl fun h => Stream.holdsWithin_of_enabled enabled (by
      have fits := h.fits
      simp only [Stream.freeCount, Stream.fill, List.length_append] at le fits ⊢
      omega)
  unfold Stream.playbackWrite
  split
  · split
    next two => exact longer _ false two
    · split
      next one => exact longer _ true one.ge
      · exact .refl st
  · split
    next one => exact longer _ st.half one
    · exact .refl st

/-! ### A stream at a frame's start and end -/

theorem Stream.follows_fixLive (f : FrameNo) (m : SlotTable) (nd : Directory) (n : Fin 8) (st : Stream) :
    st.Follows (fixLive f m nd n st).stream := by
  unfold fixLive
  split
  · exact st.follows_live _ _
  · exact .refl st

theorem Stream.follows_release (st : Stream) (g : List (Fin 32 × SlotRecord)) : st.Follows (st.release g).stream :=
  .judged rfl fun h => Stream.holdsWithin_of_enabled rfl (by
    have fits := h.fits
    simp only [Stream.fill, List.length_drop] at fits ⊢
    omega)

theorem Stream.follows_underrun (st : Stream) (f : FrameNo) (n : Fin 8) (g : List (Fin 32 × SlotRecord)) :
    st.Follows (st.underrun f n g).stream :=
  ⟨rfl, fun h => ⟨h.fits, h.disabledEmpty⟩, id⟩

theorem Stream.follows_overrun (st : Stream) (f : FrameNo) (n : Fin 8) : st.Follows (st.overrun f n).stream :=
  ⟨rfl, fun h => ⟨h.fits, h.disabledEmpty⟩, id⟩

theorem Stream.follows_frameRelease (st : Stream) (f : FrameNo) (m : SlotTable) (n : Fin 8) :
    st.Follows (st.frameRelease f m n).stream := by
  unfold Stream.frameRelease Stream.primingStart Stream.runningStart
  split
  · exact .refl st
  · split
    · exact .refl st
    · split
      · exact st.follows_release _
      · exact .refl st
    · split
      · exact .refl st
      · split
        · exact st.follows_release _
        · exact st.follows_underrun f n _

theorem Stream.follows_frameStartMove (f : FrameNo) (m : SlotTable) (nd : Directory) (n : Fin 8) (st : Stream) :
    st.Follows (frameStartMove f m nd n st).stream :=
  (Stream.follows_fixLive f m nd n st).trans (Stream.follows_frameRelease _ f m n)

/-- A group is delivered only where it fits whole (R121). -/
theorem Stream.follows_frameEndMove (f : FrameNo) (m : SlotTable) (payload : List Bool) (n : Fin 8) (st : Stream) :
    st.Follows (frameEndMove f m payload n st).stream := by
  unfold frameEndMove
  split
  · exact .refl st
  · split
    next takes =>
      have enabled : st.enabled = true := (Bool.and_eq_true_iff.1 takes).1
      dsimp only
      split
      · exact .refl st
      · split
        next fits =>
          refine .judged rfl fun h => Stream.holdsWithin_of_enabled enabled ?_
          have held := h.fits
          simp only [groupSamples, Stream.freeCount, Stream.fill, List.length_append, List.length_map] at fits held ⊢
          omega
        · exact st.follows_overrun f n
    · exact .refl st

/-! ### The sum of the capacities -/

theorem foldl_capacity (ss : Vector Stream 8) (l : List (Fin 8)) (acc : Nat) :
    l.foldl (fun acc n => acc + ss[n].capacity) acc = acc + (l.map fun n => ss[n].capacity).sum := by
  induction l generalizing acc with
  | nil => rfl
  | cons n l ih => rw [List.foldl_cons, ih, List.map_cons, List.sum_cons, Nat.add_assoc]

theorem totalCapacity_congr {ss ss' : Vector Stream 8} (same : ∀ n : Fin 8, ss'[n].capacity = ss[n].capacity) :
    totalCapacity ss' = totalCapacity ss := by
  simp only [totalCapacity, same]

/-- One stream's context replaced: its new capacity beside those of the seven others (R113). -/
theorem totalCapacity_upd (ss : Vector Stream 8) (n : Fin 8) (st : Stream) :
    totalCapacity (upd ss n st) = st.capacity + otherCapacities ss n := by
  have others : streamNumbers.filter (fun k => k ≠ n) = streamNumbers.erase n := by
    rw [List.Nodup.erase_eq_filter nodup_streamNumbers]
    exact List.filter_congr fun k _ => by simp [bne, beq_eq_decide]
  rw [totalCapacity, otherCapacities, foldl_capacity, foldl_capacity, others,
    ← List.sum_map_erase _ (mem_streamNumbers n), upd_self, Nat.zero_add, Nat.zero_add]
  congr 2
  refine List.map_congr_left fun k hk => ?_
  rw [upd_ne _ ((List.Nodup.mem_erase_iff nodup_streamNumbers).1 hk).1.symm]

/-! ### What a command does to the streams -/

/-- What every operation gives: the two parts of the claim carried over. -/
structure State.KeepsStreams (s t : State) : Prop where
  pool : s.PoolFits → t.PoolFits
  lines : s.LinesJudged → t.LinesJudged

section
variable {s t : State}

theorem State.KeepsStreams.of_follows (h : ∀ n : Fin 8, s.su.streams[n].Follows t.su.streams[n]) :
    s.KeepsStreams t where
  pool held := by
    rw [State.poolFits_iff] at held ⊢
    refine ⟨?_, fun n => (h n).within (held.2 n)⟩
    rw [totalCapacity_congr fun n => (h n).capacity]
    exact held.1
  lines judged n := (h n).line (judged n)

theorem State.KeepsStreams.of_same (same : t.su = s.su) : s.KeepsStreams t :=
  .of_follows fun n => by
    rw [same]
    exact .refl _

/-- One stream's context replaced by one that follows it. -/
theorem State.keepsStreams_setStream {n : Fin 8} {st : Stream} (h : s.su.streams[n].Follows st)
    (streams : t.su.streams = upd s.su.streams n st) : s.KeepsStreams t :=
  .of_follows fun k => by
    rw [streams, upd_get]
    split
    next same =>
      subst same
      exact h
    · exact .refl _

end

theorem State.deviceReset_stream (s : State) (n : Fin 8) : s.deviceReset.su.streams[n] = Stream.fresh := by
  simp [State.deviceReset, State.reset, StreamUnit.fresh]

theorem State.poolFits_deviceReset (s : State) : s.deviceReset.PoolFits := by
  refine State.poolFits_iff.2 ⟨?_, fun n => ?_⟩
  · have none : totalCapacity s.deviceReset.su.streams = 0 := by
      simp only [totalCapacity, State.deviceReset_stream]
      rfl
    rw [none]
    exact Nat.zero_le _
  · rw [State.deviceReset_stream]
    exact Stream.holdsWithin_of_empty rfl

theorem State.linesJudged_deviceReset (s : State) : s.deviceReset.LinesJudged := fun n => by
  rw [State.deviceReset_stream]
  rfl

/-- A CFG write is taken only where the eight capacities stay within the pool, and only on a disabled stream, which holds
nothing (R113). -/
theorem State.keepsStreams_writeStreamCfg (s : State) (n : Fin 8) (w : Word) : s.KeepsStreams (s.writeStreamCfg n w) := by
  unfold State.writeStreamCfg
  split
  · exact .of_same rfl
  next off =>
    have off : s.su.streams[n].enabled = false := Bool.eq_false_of_not_eq_true off
    split
    · exact .of_same rfl
    · split
      · exact .of_same rfl
      next room =>
        constructor
        · intro held
          rw [State.poolFits_iff] at held ⊢
          refine ⟨?_, fun k => ?_⟩
          · rw [State.setStream_su, totalCapacity_upd]
            exact Nat.le_of_not_lt room
          · rw [State.setStream_su, upd_get]
            split
            · exact Stream.holdsWithin_of_empty ((held.2 n).disabledEmpty off)
            · exact held.2 k
        · intro judged k
          rw [State.setStream_su, upd_get]
          split
          · have state := Stream.not_enabled_iff.1 off
            have low : s.su.streams[n].drq = false := (judged n).trans (Stream.drqLevel_disabled state)
            exact low.trans (Stream.drqLevel_disabled (by exact state)).symm
          · exact judged k

theorem State.keepsStreams_enableStream (s : State) (n : Fin 8) : s.KeepsStreams (s.enableStream n) := by
  unfold State.enableStream
  split
  · exact .of_same rfl
  · split
    · exact .of_same rfl
    · exact State.keepsStreams_setStream (Stream.follows_enable _ _) (by rw [State.recordGap_su]; rfl)

theorem State.KeepsStreams.trans {s t u : State} (st : s.KeepsStreams t) (tu : t.KeepsStreams u) : s.KeepsStreams u :=
  ⟨tu.pool ∘ st.pool, tu.lines ∘ st.lines⟩

theorem State.keepsStreams_writeStreamCtrl (s : State) (n : Fin 8) (enable disable dma : Bool) :
    s.KeepsStreams (s.writeStreamCtrl n enable disable dma) := by
  have dmaSet : s.KeepsStreams (s.setDma n dma) := State.keepsStreams_setStream (Stream.follows_dma _ dma) rfl
  unfold State.writeStreamCtrl
  split
  · exact .of_same rfl
  · exact dmaSet.trans (State.keepsStreams_enableStream _ n)
  · exact dmaSet.trans (State.keepsStreams_setStream (Stream.follows_disable _) rfl)
  · exact dmaSet

theorem State.keepsStreams_readPort (s : State) (n : Fin 8) : s.KeepsStreams (s.readPort n) := by
  unfold State.readPort
  split
  · exact .of_same rfl
  next on =>
    split
    · exact .of_same rfl
    · dsimp only
      split
      · exact .of_same rfl
      · exact State.keepsStreams_setStream (Stream.follows_captureRead (eq_true_of_ne_false on)) rfl

theorem State.keepsStreams_writePort (s : State) (n : Fin 8) (w : Word) : s.KeepsStreams (s.writePort n w) := by
  unfold State.writePort
  split
  · exact .of_same rfl
  next on =>
    have written := Stream.follows_playbackWrite (st := s.stream n) (eq_true_of_ne_false on) w
    split
    · exact .of_same rfl
    · dsimp only
      split
      · exact State.keepsStreams_setStream written rfl
      · exact State.keepsStreams_setStream written rfl

/-! ### The link-down clear -/

theorem State.keepsStreams_linkDownClear (s : State) : s.KeepsStreams s.linkDownClear :=
  .of_follows fun n => by
    rw [State.linkDownClear_su, StreamUnit.linkDownClear, mapTable_get]
    exact Stream.follows_live _ _ _

theorem State.keepsStreams_enterDown (s : State) : s.KeepsStreams s.enterDown :=
  s.keepsStreams_linkDownClear.trans (.of_same rfl)

theorem State.keepsStreams_enterFault (s : State) : s.KeepsStreams s.enterFault := by
  have failed : s.KeepsStreams s.failInFlightRequest.failCommit := .of_same (by simp)
  exact failed.trans ((State.keepsStreams_linkDownClear _).trans (.of_same rfl))

theorem State.keepsStreams_faultClear (s : State) : s.KeepsStreams s.faultClear := by
  unfold State.faultClear
  split
  · exact s.keepsStreams_enterDown
  · exact .of_same rfl

theorem State.keepsStreams_contention (s : State) : s.KeepsStreams s.contention := by
  unfold State.contention
  extract_lets _ t
  have counted : s.KeepsStreams t := .of_same rfl
  split
  · exact counted.trans t.keepsStreams_enterFault
  · exact counted

/-! ### A frame's start and end -/

theorem State.keepsStreams_startStreams (s : State) : s.KeepsStreams s.startStreams :=
  .of_follows fun n => by
    rw [State.startStreams_stream]
    exact Stream.follows_frameStartMove _ _ _ _ _

theorem State.keepsStreams_endStreams (s : State) (p : List Bool) : s.KeepsStreams (s.endStreams p) :=
  .of_follows fun n => by
    rw [State.endStreams_stream]
    exact Stream.follows_frameEndMove _ _ _ _ _

theorem State.keepsStreams_workFrame (s : State) : s.KeepsStreams s.workFrame := by
  have formed : s.KeepsStreams s.formMap := .of_same s.formMap_su
  have settled : ∀ u : State, u.KeepsStreams u.settleField := fun u => .of_same u.settleField_su
  unfold State.workFrame
  dsimp only
  split
  · exact formed.trans ((State.keepsStreams_startStreams _).trans (settled _))
  · exact formed.trans (settled _)

theorem State.keepsStreams_startFrame (s : State) : s.KeepsStreams s.startFrame := by
  have next : s.KeepsStreams s.nextFrame := .of_follows fun _ => .refl _
  have synced : s.KeepsStreams s.nextFrame.countSync := next.trans (.of_same (State.countSync_su _))
  unfold State.startFrame
  dsimp only
  split
  · split
    · exact synced.trans (State.keepsStreams_workFrame _)
    · exact synced
  · exact next.trans (State.keepsStreams_workFrame _)
  · exact next.trans (State.keepsStreams_workFrame _)
  · exact .of_same rfl
  · exact .of_same rfl

theorem State.keepsStreams_drainStep (s : State) : s.KeepsStreams s.drainStep := by
  unfold State.drainStep
  split
  · split
    · exact s.keepsStreams_enterDown
    · exact .of_same rfl
  · split
    · exact .of_same rfl
    · exact .of_same rfl

theorem State.keepsStreams_endFrame (s : State) (p : List Bool) : s.KeepsStreams (s.endFrame p) := by
  unfold State.endFrame
  extract_lets sent _ ended served
  have delivered : s.KeepsStreams served := by
    have atEnd : s.KeepsStreams ended := .of_same s.fieldSent_su
    unfold served
    split
    · exact atEnd.trans (ended.keepsStreams_endStreams p)
    · exact atEnd
  split
  · exact delivered.trans served.keepsStreams_drainStep
  · exact delivered

/-! ### Every command -/

theorem makes_keepsStreams : Makes State.KeepsStreams where
  same _ := .of_same rfl
  reset _ _ _ := ⟨fun _ => State.poolFits_deviceReset _, fun _ => State.linesJudged_deviceReset _⟩
  readData _ _ := .of_same rfl
  readFault _ _ _ _ := .of_same rfl
  fault _ _ _ _ := .of_same rfl
  linkStart s := .of_same (by unfold State.linkStart; split <;> rfl)
  linkStop s := .of_same (by unfold State.linkStop State.stopCommit; (repeat' split) <;> rfl)
  faultClear s := s.keepsStreams_faultClear
  linkCfg s _ := .of_same (by unfold State.writeLinkCfg; (repeat' split) <;> rfl)
  xchgCfg s _ := .of_same (by unfold State.writeXchgCfg; (repeat' split) <;> rfl)
  linkErrors _ := .of_same rfl
  surveyStart s := .of_same (by unfold State.surveyStart; split <;> rfl)
  commit s _ := .of_same (by unfold State.writeCommit State.commitApply; (repeat' split) <;> rfl)
  evtClear _ _ := .of_same rfl
  sevtClear _ _ := .of_same rfl
  evtEnable _ _ := .of_same rfl
  sevtEnable _ _ := .of_same rfl
  faultRecord _ := .of_same rfl
  popGap s := .of_same (by unfold State.popGap; split <;> rfl)
  appendChange s := .of_same (by unfold State.appendChange; (repeat' split) <;> rfl)
  clearChanges s := .of_same (by unfold State.clearChanges; split <;> rfl)
  chgStage0 _ _ := .of_same rfl
  chgStage1 _ _ := .of_same rfl
  reqStage0 _ _ := .of_same rfl
  reqStage1 _ _ := .of_same rfl
  submit s := .of_same (by unfold State.submitRequest; (repeat' split) <;> rfl)
  flush _ := .of_same rfl
  popCompletion s := .of_same (by unfold State.popCompletion; split <;> rfl)
  streamCfg s n w := s.keepsStreams_writeStreamCfg n w
  streamLevels _ _ _ := State.keepsStreams_setStream (Stream.follows_levels _ _ _ _) rfl
  streamCtrl s n a b d := s.keepsStreams_writeStreamCtrl n a b d
  counts _ _ := State.keepsStreams_setStream (Stream.follows_counts _) rfl
  readPort s n := s.keepsStreams_readPort n
  writePort s n w := s.keepsStreams_writePort n w
  placeField s := .of_same s.placeField_su
  fieldSent s := .of_same s.fieldSent_su
  startFrame s _ := s.keepsStreams_startFrame
  cleanFrame s _ := .of_same s.cleanFrame_su
  contention s _ := s.keepsStreams_contention
  endFrame s p _ := s.keepsStreams_endFrame p
  respond s f _ := .of_same (s.respond_su f)

theorem step_keepsStreams {s t : State} (taken : step s = .next t) : s.KeepsStreams t := by
  unfold step at taken
  split at taken
  · cases taken
    exact .of_same rfl
  next c rest _ =>
    obtain ⟨u, made, kept⟩ := exec_makes makes_keepsStreams c (s.setPending rest)
    rw [made] at taken
    cases taken
    have queued : s.KeepsStreams (s.setPending rest) := .of_same rfl
    exact queued.trans kept

/-- Settles O57: each operation keeps the capacities it does not judge against the pool, adds no more samples than there is
room for, and judges the line again wherever one of its conditions moves. -/
theorem stepKeepsStreamsSound : Obligations.StepKeepsStreamsSound := by
  refine ⟨fun s t held taken => (step_keepsStreams taken).pool held, fun s t judged taken => ?_⟩
  have lines := (step_keepsStreams taken).lines judged
  refine ⟨lines, fun n => ?_⟩
  dsimp only
  rw [lines n, Stream.drqLevel_iff]

end Sys2Proof.Machine
end

section
/-! PROOFS. A stopped link is empty (R25, R29, R33, R34, R65, R79). -/
namespace Sys2Proof.Machine

/-! ### The link with and without a session -/

/-- The links in which nothing of a session stands: stopped, or a session that has not reached UP. -/
def FrameEngine.Sessionless (fe : FrameEngine) : Prop :=
  fe.link = .down ∨ fe.link = .fault ∨ fe.link = .syncing ∨ (fe.link = .draining ∧ fe.drainFromSync = true)

/-- A session in UP, or a drain entered from UP whose condition has not held yet: nothing is asked of it. -/
def FrameEngine.Working (fe : FrameEngine) : Prop :=
  fe.link = .up ∨ (fe.link = .draining ∧ fe.drainFromSync = false ∧ fe.drainHeld = false)

theorem State.drainCondition_iff {s : State} :
    s.drainCondition = true ↔ s.cx.inFlight = none ∧ s.ce.phase = .idle := by
  simp [State.drainCondition]

section
variable {s t : State}

theorem State.stoppedIsEmpty_of_working (h : t.fe.Working) : t.StoppedIsEmpty where
  stopped off := by
    rcases h with up | ⟨draining, fromUp, _⟩
    · simp [up] at off
    · simp [draining, fromUp] at off
  drained draining held := by
    rcases h with up | ⟨_, _, notHeld⟩
    · rw [up] at draining
      cases draining
    · rw [notHeld] at held
      cases held

/-- What asks for nothing to be left holds in every link but a working one. -/
theorem State.StoppedIsEmpty.working (h : s.StoppedIsEmpty) (busy : s.drainCondition = false) : s.fe.Working := by
  have session : ¬s.NoSession := fun empty => by
    rw [State.drainCondition_iff.2 ⟨empty.noCommand, empty.idle⟩] at busy
    cases busy
  have running : ¬s.fe.Sessionless := fun off => session (h.stopped off)
  cases link : s.fe.link with
  | down => exact absurd (.inl link) running
  | fault => exact absurd (.inr (.inl link)) running
  | syncing => exact absurd (.inr (.inr (.inl link))) running
  | up => exact .inl link
  | draining =>
    refine .inr ⟨link, ?_, ?_⟩
    · exact Bool.eq_false_of_not_eq_true fun fromSync => running (.inr (.inr (.inr ⟨link, fromSync⟩)))
    · exact Bool.eq_false_of_not_eq_true fun held => by
        rw [h.drained link held] at busy
        cases busy

theorem State.StoppedIsEmpty.working_of_inFlight (h : s.StoppedIsEmpty) {r : InFlight}
    (inFlight : s.cx.inFlight = some r) : s.fe.Working :=
  h.working (by simp [State.drainCondition, inFlight])

/-- Under the same link each of the two parts is carried over. -/
theorem State.StoppedIsEmpty.of_keeps (h : s.StoppedIsEmpty) (link : t.fe.link = s.fe.link)
    (fromSync : t.fe.drainFromSync = s.fe.drainFromSync) (held : t.fe.drainHeld = s.fe.drainHeld)
    (empty : s.fe.Sessionless → s.NoSession → t.NoSession)
    (drained : s.drainCondition = true → t.drainCondition = true) : t.StoppedIsEmpty where
  stopped off := by
    rw [link, fromSync] at off
    exact empty off (h.stopped off)
  drained draining isHeld := by
    rw [link] at draining
    rw [held] at isHeld
    exact drained (h.drained draining isHeld)

/-! ### What the invariant looks at -/

/-- What is left of a session: the command in progress, the directory, the maps, the commit, the survey, the live sets. -/
def State.sessionView (s : State) : Option InFlight × Directory × SlotTable × Phase × Option SlotTable ×
    List StagingCmd × SurveyState × (Fin 8 → List (Fin 32)) :=
  (s.cx.inFlight, s.nd, s.sm.active, s.ce.phase, s.ce.pending, s.ce.staging, s.sv.state, fun n => s.su.streams[n].live)

/-- The part of the link that the invariant looks at. -/
def State.drainView (s : State) : LinkState × Bool × Bool := (s.fe.link, s.fe.drainFromSync, s.fe.drainHeld)

theorem State.NoSession.of_same (h : s.NoSession) (same : t.sessionView = s.sessionView) : t.NoSession := by
  simp only [State.sessionView, Prod.mk.injEq] at same
  obtain ⟨inFlight, nd, active, phase, pending, staging, survey, live⟩ := same
  constructor
  · rw [inFlight, h.noCommand]
  · rw [nd, h.allFree]
  · rw [active, h.noMap]
  · rw [phase, h.idle]
  · rw [pending, h.noPending]
  · rw [staging, h.noStaging]
  · rw [survey, h.noSurvey]
  · exact fun n => (congrFun live n).trans (h.noLive n)

theorem State.StoppedIsEmpty.of_same (h : s.StoppedIsEmpty) (drain : t.drainView = s.drainView)
    (session : t.sessionView = s.sessionView) : t.StoppedIsEmpty := by
  simp only [State.drainView, Prod.mk.injEq] at drain
  obtain ⟨link, fromSync, held⟩ := drain
  refine h.of_keeps link fromSync held (fun _ empty => empty.of_same session) fun condition => ?_
  simp only [State.sessionView, Prod.mk.injEq] at session
  rw [State.drainCondition_iff] at condition ⊢
  exact ⟨session.1.trans condition.1, session.2.2.2.1.trans condition.2⟩

theorem State.stoppedIsEmpty_deviceReset (s : State) : s.deviceReset.StoppedIsEmpty where
  stopped _ :=
    { noCommand := rfl, allFree := rfl, noMap := rfl, idle := rfl, noPending := rfl, noStaging := rfl, noSurvey := rfl
      noLive := fun n => by simp [State.deviceReset, State.reset, StreamUnit.fresh, Stream.fresh] }
  drained := nofun

/-! ### Live sets -/

/-- A stream's context replaced by one of the same live set. -/
theorem State.sessionView_setStream {n : Fin 8} {st : Stream} (live : st.live = s.su.streams[n].live) :
    (s.setStream n st).sessionView = s.sessionView := by
  have lives : ∀ k : Fin 8, (s.setStream n st).su.streams[k].live = s.su.streams[k].live := by
    intro k
    rw [State.setStream_su, upd_get]
    split
    next same => rw [live, same]
    · rfl
  simp only [State.sessionView, lives]
  rfl

theorem State.StoppedIsEmpty.setStream (h : s.StoppedIsEmpty) {n : Fin 8} {st : Stream}
    (live : st.live = s.su.streams[n].live) : (s.setStream n st).StoppedIsEmpty :=
  h.of_same rfl (State.sessionView_setStream live)

theorem empty_get (k : Fin 32) : SlotTable.empty[k] = none := by
  simp [SlotTable.empty]

theorem liveSlots_empty (nd : Directory) (n : Fin 8) : liveSlots SlotTable.empty nd n = [] := by
  simp [liveSlots, SlotTable.empty]

theorem frameEndMove_live (f : FrameNo) (m : SlotTable) (p : List Bool) (n : Fin 8) (st : Stream) :
    (frameEndMove f m p n st).stream.live = st.live := by
  unfold frameEndMove
  dsimp only
  (repeat' split) <;> rfl

theorem State.sessionView_endStreams (s : State) (p : List Bool) : (s.endStreams p).sessionView = s.sessionView := by
  simp only [State.sessionView, State.endStreams_cx, State.endStreams_nd, State.endStreams_sm, State.endStreams_ce,
    State.endStreams_sv, State.endStreams_stream, frameEndMove_live]

theorem State.drainView_endStreams (s : State) (p : List Bool) : (s.endStreams p).drainView = s.drainView := by
  simp only [State.drainView, State.endStreams_fe]

/-! ### The host's writes -/

theorem State.StoppedIsEmpty.linkStart (h : s.StoppedIsEmpty) : s.linkStart.StoppedIsEmpty := by
  unfold State.linkStart
  split
  next down =>
    have empty : s.NoSession := h.stopped (.inl down)
    exact ⟨fun _ => empty.of_same rfl, nofun⟩
  · exact h.of_same rfl rfl

theorem State.stopCommit_idle (idle : s.ce.phase = .idle) : s.stopCommit = s := by
  simp [State.stopCommit, idle]

theorem State.stopCommit_fe (s : State) : s.stopCommit.fe = s.fe := by
  unfold State.stopCommit
  (repeat' split) <;> rfl

theorem State.StoppedIsEmpty.linkStop (h : s.StoppedIsEmpty) : s.linkStop.StoppedIsEmpty := by
  unfold State.linkStop
  split
  next syncing =>
    have empty : s.NoSession := h.stopped (.inr (.inr (.inl syncing)))
    rw [State.stopCommit_idle (by exact empty.idle)]
    exact ⟨fun _ => empty.of_same rfl, fun _ => nofun⟩
  · refine State.stoppedIsEmpty_of_working ?_
    rw [State.stopCommit_fe]
    exact .inr ⟨rfl, rfl, rfl⟩
  · exact h
  · exact h.of_same rfl rfl
  · exact h.of_same rfl rfl

theorem State.StoppedIsEmpty.writeCommit (h : s.StoppedIsEmpty) (m : Option CommitMode) :
    (s.writeCommit m).StoppedIsEmpty := by
  unfold State.writeCommit State.commitApply
  split
  · exact h.of_same rfl rfl
  · split
    · exact h.of_same rfl rfl
    · split
      · exact h.of_same rfl rfl
      · split
        next up => exact State.stoppedIsEmpty_of_working (.inl up)
        · exact h.of_same rfl rfl

theorem State.StoppedIsEmpty.surveyStart (h : s.StoppedIsEmpty) : s.surveyStart.StoppedIsEmpty := by
  unfold State.surveyStart
  split
  next accepted => exact State.stoppedIsEmpty_of_working (.inl accepted.1)
  · exact h.of_same rfl rfl

theorem State.StoppedIsEmpty.writeStreamCfg (h : s.StoppedIsEmpty) (n : Fin 8) (w : Word) :
    (s.writeStreamCfg n w).StoppedIsEmpty := by
  unfold State.writeStreamCfg
  split
  · exact h.of_same rfl rfl
  · split
    · exact h.of_same rfl rfl
    · split
      · exact h.of_same rfl rfl
      · exact h.setStream rfl

/-- With no map the live set of an enabled stream is empty (R118). -/
theorem State.StoppedIsEmpty.enableStream (h : s.StoppedIsEmpty) (n : Fin 8) : (s.enableStream n).StoppedIsEmpty := by
  unfold State.enableStream
  split
  · exact h
  · split
    · exact h.of_same rfl rfl
    · refine h.of_keeps (by simp) (by simp) (by simp) (fun _ empty => ?_) fun condition => ?_
      · refine empty.of_same (Eq.trans ?_ (State.sessionView_setStream (n := n)
          (st := (s.stream n).enable (liveSlots s.sm.active s.nd n)) ?_))
        · simp only [State.sessionView, State.recordGap_cx, State.recordGap_nd, State.recordGap_sm, State.recordGap_ce,
            State.recordGap_sv, State.recordGap_su]
        · exact (empty.noMap ▸ liveSlots_empty _ _ : liveSlots s.sm.active s.nd n = []).trans (empty.noLive n).symm
      · rw [State.drainCondition_iff] at condition ⊢
        rwa [State.recordGap_cx, State.recordGap_ce]

theorem Stream.disable_live (st : Stream) : st.disable.live = st.live := by
  unfold Stream.disable
  split <;> rfl

theorem State.StoppedIsEmpty.writeStreamCtrl (h : s.StoppedIsEmpty) (n : Fin 8) (enable disable dma : Bool) :
    (s.writeStreamCtrl n enable disable dma).StoppedIsEmpty := by
  have dmaSet : (s.setDma n dma).StoppedIsEmpty := h.setStream rfl
  unfold State.writeStreamCtrl
  split
  · exact h.of_same rfl rfl
  · exact dmaSet.enableStream n
  · exact dmaSet.setStream (Stream.disable_live _)
  · exact dmaSet

theorem Stream.captureRead_live (st : Stream) : st.captureRead.2.1.live = st.live := by
  unfold Stream.captureRead
  (repeat' split) <;> rfl

theorem Stream.playbackWrite_live (st : Stream) (w : Word) : (st.playbackWrite w).1.live = st.live := by
  unfold Stream.playbackWrite
  (repeat' split) <;> rfl

theorem State.StoppedIsEmpty.readPort (h : s.StoppedIsEmpty) (n : Fin 8) : (s.readPort n).StoppedIsEmpty := by
  have read : ∀ w : Word, (s.setReadData w).StoppedIsEmpty := fun w => h.of_same rfl rfl
  unfold State.readPort
  split
  · exact h.of_same rfl rfl
  · split
    · exact h.of_same rfl rfl
    · dsimp only
      split
      · exact h.of_same rfl rfl
      · exact (read _).setStream (Stream.captureRead_live _)

theorem State.StoppedIsEmpty.writePort (h : s.StoppedIsEmpty) (n : Fin 8) (w : Word) :
    (s.writePort n w).StoppedIsEmpty := by
  have written : (s.setStream n ((s.stream n).playbackWrite w).1).StoppedIsEmpty :=
    h.setStream (Stream.playbackWrite_live _ w)
  unfold State.writePort
  split
  · exact h.of_same rfl rfl
  · split
    · exact h.of_same rfl rfl
    · dsimp only
      split
      · exact written.of_same rfl rfl
      · exact written

/-! ### The link-down clear -/

theorem State.noSession_linkDownClear (idle : s.ce.phase = .idle) : s.linkDownClear.NoSession where
  noCommand := by rw [State.linkDownClear_cx]; rfl
  allFree := rfl
  noMap := by rw [State.linkDownClear_sm]; rfl
  idle := by rw [State.linkDownClear_ce]; exact idle
  noPending := by rw [State.linkDownClear_ce]; rfl
  noStaging := by rw [State.linkDownClear_ce]; rfl
  noSurvey := s.stopSurvey_not_running
  noLive n := by rw [State.linkDownClear_su, StreamUnit.linkDownClear, mapTable_get]

theorem State.stoppedIsEmpty_enterDown (idle : s.ce.phase = .idle) : s.enterDown.StoppedIsEmpty :=
  ⟨fun _ => (State.noSession_linkDownClear idle).of_same rfl, nofun⟩

theorem State.failCommit_idle (s : State) : s.failCommit.ce.phase = .idle := by
  unfold State.failCommit
  split
  next idle => exact idle
  · rfl

theorem State.stoppedIsEmpty_enterFault (s : State) : s.enterFault.StoppedIsEmpty :=
  ⟨fun _ => (State.noSession_linkDownClear (State.failCommit_idle _)).of_same rfl, nofun⟩

theorem State.StoppedIsEmpty.faultClear (h : s.StoppedIsEmpty) : s.faultClear.StoppedIsEmpty := by
  unfold State.faultClear
  split
  next fault => exact State.stoppedIsEmpty_enterDown (h.stopped (.inr (.inl fault))).idle
  · exact h

theorem State.StoppedIsEmpty.contention (h : s.StoppedIsEmpty) : s.contention.StoppedIsEmpty := by
  unfold State.contention
  dsimp only
  split
  · exact State.stoppedIsEmpty_enterFault _
  · exact h.of_same rfl rfl

/-! ### The command field -/

theorem State.StoppedIsEmpty.placeField (h : s.StoppedIsEmpty) : s.placeField.StoppedIsEmpty := by
  have fixed : s.fixSwitchFrame.StoppedIsEmpty := by
    unfold State.fixSwitchFrame
    split
    · exact h.of_same rfl rfl
    · exact h
  unfold State.placeField
  split
  · exact fixed.of_same rfl rfl
  · exact h

theorem State.StoppedIsEmpty.concludeBroadcast (h : s.StoppedIsEmpty) : s.concludeBroadcast.StoppedIsEmpty := by
  cases inFlight : s.cx.inFlight with
  | none => simpa only [State.concludeBroadcast, inFlight] using h
  | some r =>
    refine State.stoppedIsEmpty_of_working ?_
    rw [State.concludeBroadcast_fe]
    exact h.working_of_inFlight inFlight

theorem State.StoppedIsEmpty.fieldSent (h : s.StoppedIsEmpty) : s.fieldSent.StoppedIsEmpty := by
  unfold State.fieldSent
  split
  · exact h.placeField.concludeBroadcast.of_same rfl rfl
  · exact h

/-! ### A frame's start and end -/

/-- In a drain with no commit active no source takes the field (R40, R145). -/
theorem State.settleField_draining (draining : s.fe.link = .draining) (idle : s.ce.phase = .idle) :
    s.settleField = s := by
  have commit : s.offerTo State.offerCommit = s := by
    unfold State.offerTo
    split
    · rfl
    · exact State.offerCommit_idle idle
  have survey : s.offerTo State.offerSurvey = s := by simp [State.offerTo, State.offerSurvey, draining]
  have requests : s.offerTo State.offerRequests = s := by simp [State.offerTo, State.offerRequests, draining]
  have keepalive : s.offerTo State.offerKeepalive = s := by simp [State.offerTo, State.offerKeepalive, draining]
  rw [State.settleField, commit, survey, requests, keepalive]

theorem State.switchDue_idle (idle : s.ce.phase = .idle) : s.switchDue = false := by
  simp [State.switchDue, idle]

theorem State.formMap_idle (idle : s.ce.phase = .idle) : s.formMap = s.setSm s.formedSlotMap := by
  simp [State.formMap, State.switchDue_idle idle]

theorem revoke_empty (nd : Directory) : revoke SlotTable.empty nd = SlotTable.empty :=
  table_ext fun k => by rw [revoke, mapTable_get, empty_get]

theorem State.NoSession.setSm (h : s.NoSession) {sm : SlotMap} (active : sm.active = SlotTable.empty) :
    (s.setSm sm).NoSession :=
  { h with noMap := active }

theorem State.NoSession.formedMap (h : s.NoSession) : s.formedMap = SlotTable.empty := by
  have unswitched : s.switchedMap = SlotTable.empty := by
    rw [State.switchedMap, State.switchDue_idle h.idle, if_neg Bool.false_ne_true, h.noMap]
  rw [State.formedMap, unswitched, revoke_empty]

theorem State.StoppedIsEmpty.workFrame_draining (h : s.StoppedIsEmpty) (draining : s.fe.link = .draining) :
    s.workFrame.StoppedIsEmpty := by
  refine h.of_keeps (by simp) (by simp) (by simp) (fun off empty => ?_) fun condition => ?_
  · have fromSync : s.fe.drainFromSync = true := by simpa [FrameEngine.Sessionless, draining] using off
    have unserved : s.fe.servesPayload = false := by simp [FrameEngine.servesPayload, draining, fromSync]
    have worked : s.workFrame = s.setSm s.formedSlotMap := by
      rw [State.workFrame, State.formMap_idle empty.idle]
      simp only [State.setSm_fe, unserved, Bool.false_eq_true, if_false]
      exact State.settleField_draining draining empty.idle
    rw [worked]
    exact empty.setSm empty.formedMap
  · rw [State.drainCondition_iff] at condition ⊢
    have formed := State.formMap_idle condition.2
    rw [State.workFrame, formed]
    split
    · rw [State.settleField_draining (by simpa using draining) (by simpa using condition.2)]
      simpa using condition
    · rw [State.settleField_draining (s := s.setSm s.formedSlotMap) draining condition.2]
      exact condition

theorem State.StoppedIsEmpty.startFrame (h : s.StoppedIsEmpty) : s.startFrame.StoppedIsEmpty := by
  have next : s.nextFrame.StoppedIsEmpty := h.of_same rfl rfl
  unfold State.startFrame
  dsimp only
  split
  · split
    next up =>
      refine State.stoppedIsEmpty_of_working (.inl ?_)
      rw [State.workFrame_fe, up]
    next notUp =>
      unfold State.countSync at notUp ⊢
      dsimp only at notUp ⊢
      split
      next sixteenth =>
        rw [if_pos sixteenth] at notUp
        exact absurd rfl notUp
      · exact next.of_same rfl rfl
  next up =>
    refine State.stoppedIsEmpty_of_working (.inl ?_)
    rw [State.workFrame_fe, up]
  next draining => exact next.workFrame_draining draining
  · exact h
  · exact h

theorem State.StoppedIsEmpty.drainStep (h : s.StoppedIsEmpty) (draining : s.fe.link = .draining) :
    s.drainStep.StoppedIsEmpty := by
  unfold State.drainStep
  split
  next held =>
    split
    · exact State.stoppedIsEmpty_enterDown (State.drainCondition_iff.1 (h.drained draining held)).2
    · exact h.of_same rfl rfl
  · split
    next condition => exact ⟨fun off => (h.stopped off).of_same rfl, fun _ _ => condition⟩
    · exact h

theorem State.StoppedIsEmpty.endFrame (h : s.StoppedIsEmpty) (p : List Bool) : (s.endFrame p).StoppedIsEmpty := by
  have ended : (s.fieldSent.setFe { s.fieldSent.fe with pos := .ended }).StoppedIsEmpty := h.fieldSent.of_same rfl rfl
  unfold State.endFrame
  extract_lets _ _ _ served
  have delivered : served.StoppedIsEmpty := by
    unfold served
    split
    · exact ended.of_same (State.drainView_endStreams _ p) (State.sessionView_endStreams _ p)
    · exact ended
  split
  next draining => exact delivered.drainStep draining
  · exact delivered

/-! ### Response arrival -/

/-- A response changes what is left of a session only where a command is in progress. -/
theorem State.StoppedIsEmpty.applyResponse (h : s.StoppedIsEmpty) (field : BitVec 32) :
    (s.applyResponse field).StoppedIsEmpty := by
  cases inFlight : s.cx.inFlight with
  | none =>
    simp only [State.applyResponse, inFlight, State.unsolicited]
    split
    · exact h
    · exact h.of_same rfl rfl
  | some r =>
    refine State.stoppedIsEmpty_of_working ?_
    rw [State.applyResponse_fe]
    exact h.working_of_inFlight inFlight

theorem State.StoppedIsEmpty.respond (h : s.StoppedIsEmpty) (field : BitVec 32) : (s.respond field).StoppedIsEmpty := by
  have answered : (s.fieldSent.setFe { s.fieldSent.fe with pos := .answered }).StoppedIsEmpty :=
    h.fieldSent.of_same rfl rfl
  exact answered.applyResponse field

/-- An operation that leaves both views as they are. -/
theorem State.StoppedIsEmpty.of_views (h : s.StoppedIsEmpty)
    (same : (t.drainView, t.sessionView) = (s.drainView, s.sessionView)) : t.StoppedIsEmpty :=
  h.of_same (Prod.mk.inj same).1 (Prod.mk.inj same).2

end

/-! ### Every command -/

theorem kept_stoppedIsEmpty : Kept State.StoppedIsEmpty where
  reset _ _ _ := State.stoppedIsEmpty_deviceReset _
  readData _ _ h := h.of_same rfl rfl
  fault _ _ _ _ h := h.of_same rfl rfl
  linkStart _ h := h.linkStart
  linkStop _ h := h.linkStop
  faultClear _ h := h.faultClear
  linkCfg _ _ h := h.of_views (by unfold State.writeLinkCfg; (repeat' split) <;> rfl)
  xchgCfg _ _ h := h.of_views (by unfold State.writeXchgCfg; (repeat' split) <;> rfl)
  linkErrors _ h := h.of_same rfl rfl
  surveyStart _ h := h.surveyStart
  commit _ m h := h.writeCommit m
  evtClear _ _ h := h.of_same rfl rfl
  sevtClear _ _ h := h.of_same rfl rfl
  evtEnable _ _ h := h.of_same rfl rfl
  sevtEnable _ _ h := h.of_same rfl rfl
  faultRecord _ h := h.of_same rfl rfl
  popGap _ h := h.of_views (by unfold State.popGap; split <;> rfl)
  appendChange _ h := h.of_views (by unfold State.appendChange; (repeat' split) <;> rfl)
  clearChanges _ h := h.of_views (by unfold State.clearChanges; split <;> rfl)
  chgStage0 _ _ h := h.of_same rfl rfl
  chgStage1 _ _ h := h.of_same rfl rfl
  reqStage0 _ _ h := h.of_same rfl rfl
  reqStage1 _ _ h := h.of_same rfl rfl
  submit _ h := h.of_views (by unfold State.submitRequest; (repeat' split) <;> rfl)
  flush _ h := h.of_same rfl rfl
  popCompletion _ h := h.of_views (by unfold State.popCompletion; split <;> rfl)
  streamCfg _ n w h := h.writeStreamCfg n w
  streamLevels _ _ _ h := h.setStream rfl
  streamCtrl _ n a b d h := h.writeStreamCtrl n a b d
  counts _ _ h := h.setStream rfl
  readPort _ n h := h.readPort n
  writePort _ n w h := h.writePort n w
  placeField _ h := h.placeField
  fieldSent _ h := h.fieldSent
  startFrame _ _ h := h.startFrame
  cleanFrame _ _ h := h.of_same rfl rfl
  contention _ _ h := h.contention
  endFrame _ p _ h := h.endFrame p
  respond _ f _ h := h.respond f

/-- Settles O58: the link-down clear empties what a session has left, and nothing but a working session takes a command, an
entry, a record or a survey up. -/
theorem stepKeepsStoppedEmpty : Obligations.StepKeepsStoppedEmpty := by
  intro s t h taken
  exact step_kept kept_stoppedIsEmpty (fun _ _ held => held.of_same rfl rfl) h taken

end Sys2Proof.Machine
end

section
/-! PROOFS. The steps, the invariants after a device reset, and the resets (R35, R163). -/
namespace Sys2Proof.Machine

/-- Settles O1. -/
theorem stepTakesFrontCommand : Obligations.StepTakesFrontCommand := by
  refine ⟨fun s c rest queue => ?_, fun s queue => ?_⟩
  · rw [step, queue]
    rfl
  · rw [step, queue]

/-- A directory with every entry FREE and a survey at rest hold no identity. -/
theorem State.identitiesHeldOnce_reset : State.reset.IdentitiesHeldOnce := State.reset.identitiesHeldOnce_deviceReset

/-- Settles O55: the state after a device reset is what a device reset makes of it. -/
theorem resetMeetsEveryInvariant : Obligations.ResetMeetsEveryInvariant :=
  ⟨State.reset.listsBounded_deviceReset, State.reset.poolFits_deviceReset, State.reset.linesJudged_deviceReset,
    State.reset.stoppedIsEmpty_deviceReset, State.reset.mapsFit_deviceReset, State.identitiesHeldOnce_reset⟩

/-! ### Held states -/

/-- Not held: the pin is high and the clock runs (R163). -/
theorem State.alive_iff {s : State} : s.held = false ↔ s.resetN = true ∧ s.refclk = true := by
  simp [State.held]

theorem State.deviceReset_alive {s : State} (h : s.held = false) :
    s.deviceReset = { State.reset with pending := s.pending } := by
  obtain ⟨high, running⟩ := State.alive_iff.1 h
  rw [State.deviceReset, high, running]
  rfl

/-- Settles O3: every row of the family carries out the device reset, after its own pin or clock has moved. -/
theorem deviceResetsTakeEveryBlock : Obligations.DeviceResetsTakeEveryBlock := by
  refine fun s => ⟨rfl, rfl, fun alive => ?_, fun low => ?_, fun stopped => ?_⟩
  · rw [exec_softReset_alive alive, State.softReset, State.deviceReset_alive alive]
  · simp only [exec, execResetNRelease, low, Bool.false_eq_true, if_false]
    rfl
  · simp only [exec, execRefclkRestart, stopped, Bool.false_eq_true, if_false]
    rfl

theorem State.windowRead_held {s : State} (h : s.held = true) (o : WinOffset) : s.windowRead o = 0 := if_pos h

theorem State.windowRead_unmapped (s : State) {o : WinOffset} (h : decodeOffset o = none) : s.windowRead o = 0 := by
  rw [State.windowRead, h]
  exact ite_self _

/-- A write at an offset that names no register is refused UNMAPPED (R160). -/
theorem exec_registerWrite_unmapped {s : State} (h : s.held = false) {o : WinOffset} (e : decodeOffset o = none)
    (w : Word) (l : BitVec 4) : exec (.registerWrite o w l) s = .next (s.accessFault .unmapped (wordOffset o)) := by
  simp only [exec, execRegisterWrite, State.whenAlive_alive h, State.hostWrite, e]

theorem exec_unmapped_alive {s : State} (h : s.held = false) {o : WinOffset} (e : decodeOffset o = none) (a : Access) :
    exec (.unmapped o a) s = .next (s.accessUnmapped o a) := by
  simp only [exec, execUnmapped, e, h, Bool.false_eq_true, if_false]

/-- Settles O4: a held part takes no write and answers 0; an alive one records UNMAPPED at the word's offset. -/
theorem heldAndUnmappedAccesses : Obligations.HeldAndUnmappedAccesses := by
  refine ⟨fun s held => ⟨fun o v l => ?_, fun n => ?_, State.windowRead_held held, ?_, fun n => ?_⟩,
    fun s o alive unmapped => ⟨?_, ?_, fun v l => ?_, s.windowRead_unmapped unmapped⟩⟩
  · exact congrArg _ (State.whenAlive_held held _)
  · exact congrArg _ (if_pos held)
  · rw [State.irqPin, held, Bool.not_true, Bool.false_and]
  · rw [State.drqPin, held, Bool.not_true, Bool.false_and]
  · exact exec_unmapped_alive alive unmapped .read
  · exact exec_unmapped_alive alive unmapped .write
  · exact exec_registerWrite_unmapped alive unmapped v l

/-! ### Access faults -/

theorem streamOfOffset_block {o : WinOffset} {n : Fin 8} (low : 0x400 + 0x20 * n.val ≤ o.toNat)
    (high : o.toNat < 0x420 + 0x20 * n.val) : streamOfOffset o = some n := by
  have bound := n.isLt
  rw [streamOfOffset, dif_pos (by omega)]
  exact congrArg some (Fin.ext (by dsimp only; omega))

theorem streamOfOffset_port {o : WinOffset} {n : Fin 8} (low : 0x800 + 4 * n.val ≤ o.toNat)
    (high : o.toNat < 0x804 + 4 * n.val) : streamOfOffset o = some n := by
  have bound := n.isLt
  rw [streamOfOffset, dif_neg (by omega), dif_pos (by omega)]
  exact congrArg some (Fin.ext (by dsimp only; omega))

theorem streamOfOffset_none {o : WinOffset}
    (h : o.toNat < 0x400 ∨ (0x500 ≤ o.toNat ∧ o.toNat < 0x800) ∨ 0x820 ≤ o.toNat) : streamOfOffset o = none := by
  rw [streamOfOffset, dif_neg (by omega), dif_neg (by omega)]

theorem EventUnit.record_fault_of_some {eu : EventUnit} {f : FaultRecord} (h : eu.fault = some f) (c : FaultCause)
    (o : WinOffset) (d : Option EnableDetail) : (eu.record c o d).fault = some f := by
  rw [EventUnit.record, h]

/-- Raising an event sets its own bit and no other (R151). -/
theorem State.raise_sticky (s : State) (e : StickyEvent) {i : Nat} (h : i < 12) :
    (s.raise e).eu.sticky.getLsbD i = (s.eu.sticky.getLsbD i || decide (i = e.bit)) := by
  have bit : (1#12 <<< e.bit).getLsbD i = decide (i = e.bit) := by
    rw [BitVec.getLsbD_shiftLeft, BitVec.getLsbD_one]
    by_cases same : i = e.bit
    · simp [same]
      omega
    · simp only [same, decide_false, Bool.and_eq_false_iff]
      by_cases below : i < e.bit
      · simp [below]
      · right
        simp
        omega
  rw [State.raise_eu, BitVec.getLsbD_or, bit]

/-- Settles O12: by whether the record was valid, with the saturating count. -/
theorem accessFaultRecorded : Obligations.AccessFaultRecorded := by
  refine fun s c o d => ⟨_, rfl, rfl, fun f valid => ?_, fun invalid => ?_, ?_, fun i hi => ?_⟩
  · exact EventUnit.record_fault_of_some valid c o d
  · refine ⟨_, EventUnit.record_fault_of_none invalid c o d, rfl, rfl, rfl, fun n inside => ?_, streamOfOffset_none⟩
    rcases inside with block | port
    · exact streamOfOffset_block block.1 block.2
    · exact streamOfOffset_port port.1 port.2
  · exact satInc_toNat s.eu.faultCount
  · exact State.raise_sticky _ .accessFault hi

end Sys2Proof.Machine
end

section
/-! PROOFS. The register window: the offsets, the words as tabled, and where writes go (chapters 11.2 to 11.5, R160 to
R162). -/
namespace Sys2Proof.Machine

/-! ### Offsets -/

/-- The word of an offset: its two low bits 0. -/
theorem wordOffset_toNat (o : WinOffset) : (wordOffset o).toNat = o.toNat / 4 * 4 := by
  have shifted : wordOffset o = o >>> 2 <<< 2 := by
    refine BitVec.eq_of_getLsbD_eq fun i hi => ?_
    simp only [wordOffset, BitVec.getLsbD_and, BitVec.getLsbD_shiftLeft, BitVec.getLsbD_ushiftRight]
    interval_cases i <;> simp
  have bound := o.isLt
  rw [shifted, BitVec.toNat_shiftLeft, BitVec.toNat_ushiftRight, Nat.shiftRight_eq_div_pow, Nat.shiftLeft_eq]
  omega

/-- Every register stands at a whole word inside the window, which names it (chapter 11.2). -/
theorem Reg.regAt_offsetNat (r : Reg) : r.offsetNat % 4 = 0 ∧ r.offsetNat < 4096 ∧ regAt r.offsetNat = some r := by
  cases r with
  | directory a second => revert a second; decide
  | slotView k second => revert k second; decide
  | changeView i second => revert i second; decide
  | streamCfg n => revert n; decide
  | streamLevels n => revert n; decide
  | streamCtrl n => revert n; decide
  | streamStatus n => revert n; decide
  | streamCounts n => revert n; decide
  | streamSamples n => revert n; decide
  | dataPort n => revert n; decide
  | _ => decide

theorem Reg.offset_toNat (r : Reg) : r.offset.toNat = r.offsetNat := by
  rw [Reg.offset, BitVec.toNat_ofNat]
  exact Nat.mod_eq_of_lt r.regAt_offsetNat.2.1

/-- Each of the four offsets of a register's word names it (R160). -/
theorem Reg.decodeOffset_within (r : Reg) {i : Nat} (h : i < 4) :
    decodeOffset (r.offset + BitVec.ofNat 12 i) = some r := by
  obtain ⟨whole, inside, named⟩ := r.regAt_offsetNat
  have word : (wordOffset (r.offset + BitVec.ofNat 12 i)).toNat = r.offsetNat := by
    rw [wordOffset_toNat, BitVec.toNat_add, Reg.offset_toNat, BitVec.toNat_ofNat]
    omega
  rw [decodeOffset, word, named]

theorem Reg.decodeOffset_offset (r : Reg) : decodeOffset r.offset = some r := by
  have first := r.decodeOffset_within (i := 0) (by omega)
  rwa [BitVec.add_zero] at first

theorem lowReg_offsetNat {o : Nat} {r : Reg} (h : lowReg o = some r) : r.offsetNat = o := by
  unfold lowReg at h
  simpa using List.find?_some h

theorem streamReg_offsetNat {n : Fin 8} {o : Nat} {r : Reg} (h : streamReg n o = some r) :
    r.offsetNat = 0x400 + 0x20 * n.val + o := by
  unfold streamReg at h
  split at h
  next => cases h; simp only [Reg.offsetNat]; omega
  split at h
  next => cases h; simp only [Reg.offsetNat]; omega
  split at h
  next => cases h; simp only [Reg.offsetNat]; omega
  split at h
  next => cases h; simp only [Reg.offsetNat]; omega
  split at h
  next => cases h; simp only [Reg.offsetNat]; omega
  split at h
  next => cases h; simp only [Reg.offsetNat]; omega
  cases h

/-- The place of a word inside a two-word view, from its offset. -/
theorem secondOffset_mod {o : Nat} (whole : o % 4 = 0) : secondOffset (o % 8 == 4) = o % 8 := by
  unfold secondOffset
  split
  next second => exact (beq_iff_eq.1 second).symm
  next first =>
    have first : ¬o % 8 = 4 := fun e => first (beq_iff_eq.2 e)
    omega

/-- A whole word names no register but the one that stands there. -/
theorem regAt_some {o : Nat} {r : Reg} (whole : o % 4 = 0) (h : regAt o = some r) : r.offsetNat = o := by
  unfold regAt at h
  split at h
  · exact lowReg_offsetNat h
  split at h
  next inside => cases h; simp only [Reg.offsetNat, secondOffset_mod (show (o - 0x100) % 4 = 0 by omega)]; omega
  split at h
  next inside => cases h; simp only [Reg.offsetNat, secondOffset_mod (show (o - 0x200) % 4 = 0 by omega)]; omega
  split at h
  next inside => cases h; simp only [Reg.offsetNat, secondOffset_mod (show (o - 0x300) % 4 = 0 by omega)]; omega
  split at h
  next inside =>
    rw [streamReg_offsetNat h]
    dsimp only
    omega
  split at h
  next inside => cases h; simp only [Reg.offsetNat]; omega
  cases h

theorem wordOffset_of_decodeOffset {o : WinOffset} {r : Reg} (h : decodeOffset o = some r) : wordOffset o = r.offset := by
  refine BitVec.eq_of_toNat_eq ?_
  have whole : (wordOffset o).toNat % 4 = 0 := by rw [wordOffset_toNat]; omega
  rw [Reg.offset_toNat, regAt_some whole h]

/-- The offsets of the views and of the stream blocks, as the table computes them. -/
theorem Reg.offset_directory (a : NodeAddr) (second : Bool) :
    (Reg.directory a second).offset = 0x100 + 8 * BitVec.ofNat 12 a.val + if second = true then 4 else 0 := by
  revert a second
  decide

theorem Reg.offset_slotView (k : Fin 32) (second : Bool) :
    (Reg.slotView k second).offset = 0x200 + 8 * BitVec.ofNat 12 k.val + if second = true then 4 else 0 := by
  revert k second
  decide

theorem Reg.offset_changeView (i : Fin 16) (second : Bool) :
    (Reg.changeView i second).offset = 0x300 + 8 * BitVec.ofNat 12 i.val + if second = true then 4 else 0 := by
  revert i second
  decide

theorem Reg.offset_stream (n : Fin 8) :
    let block : WinOffset := 0x400 + 0x20 * BitVec.ofNat 12 n.val
    (Reg.streamCfg n).offset = block ∧ (Reg.streamLevels n).offset = block + 0x04 ∧
    (Reg.streamCtrl n).offset = block + 0x08 ∧ (Reg.streamStatus n).offset = block + 0x0C ∧
    (Reg.streamCounts n).offset = block + 0x10 ∧ (Reg.streamSamples n).offset = block + 0x14 ∧
    (Reg.dataPort n).offset = 0x800 + 4 * BitVec.ofNat 12 n.val := by
  revert n
  decide

/-! ### Fields placed in a word -/

theorem place_zero_self (w : Word) : place 0 w = w := by
  simp [place]

theorem place_zeros (lo k : Nat) : place lo (BitVec.ofNat k 0) = 0 := by
  simp [place]

/-- Two fields side by side: the lower one at the place of both, the upper one above it. -/
theorem place_append (lo : Nat) {k m : Nat} (x : BitVec k) (y : BitVec m) :
    place lo (x ++ y) = place lo y ||| place (lo + m) x := by
  refine BitVec.eq_of_getLsbD_eq fun i hi => ?_
  simp only [place, BitVec.getLsbD_or, BitVec.getLsbD_shiftLeft, BitVec.getLsbD_setWidth, BitVec.getLsbD_append, hi,
    decide_true, Bool.true_and]
  by_cases below : i < lo
  · have below' : i < lo + m := by omega
    simp [below, below']
  · have near : i - lo < 32 := by omega
    by_cases low : i - lo < m
    · have low' : i < lo + m := by omega
      simp [below, near, low, low']
    · have high : ¬i < lo + m := by omega
      have above : i - (lo + m) < 32 := by omega
      have rest : i - lo - m = i - (lo + m) := by omega
      have past : y.getLsbD (i - lo) = false := BitVec.getLsbD_of_ge y (i - lo) (by omega)
      simp [below, near, low, high, above, rest, past]

/-! ### The layouts of the words (chapters 11.3 to 11.5) -/

/-- EVT_RAW: the list events between the sticky ones. -/
theorem State.evtRaw_layout (s : State) :
    s.evtRaw = s.eu.sticky.extractLsb' 10 2 ++ BitVec.ofBool (!s.eu.gaps.isEmpty) ++
      BitVec.ofBool (!s.rq.completions.isEmpty) ++ s.eu.sticky.extractLsb' 0 8 := by
  refine BitVec.eq_of_getLsbD_eq fun i hi => ?_
  simp only [State.evtRaw, stickyMask, BitVec.getLsbD_append]
  interval_cases i <;> simp

theorem LinkCfg.word_layout (c : LinkCfg) :
    c.word = 0#17 ++ c.div ++ 0#2 ++ c.n := by
  rw [← place_zero_self (_ ++ _)]
  repeat rw [place_append]
  simp only [LinkCfg.word, place_zeros, Nat.zero_add, Nat.reduceAdd, BitVec.ofNat_eq_ofNat, BitVec.or_zero,
    BitVec.zero_or]

theorem XchgCfg.word_layout (c : XchgCfg) :
    c.word = c.interval ++ c.loss ++ c.wait ++ 0#5 ++ c.retry := by
  rw [← place_zero_self (_ ++ _)]
  repeat rw [place_append]
  simp only [XchgCfg.word, place_zeros, Nat.zero_add, Nat.reduceAdd, BitVec.ofNat_eq_ofNat, BitVec.zero_or,
    BitVec.or_assoc]

theorem State.statusWord_layout (s : State) :
    s.statusWord = 0#3 ++ BitVec.ofNat 5 s.eu.gaps.length ++ 0#3 ++ BitVec.ofNat 5 s.rq.completions.length ++
      BitVec.ofNat 4 s.rq.queue.length ++ 0#1 ++ s.sv.state.code ++ 0#1 ++ s.ce.phase.code ++ 0#1 ++ s.fe.link.code := by
  rw [← place_zero_self (_ ++ _)]
  repeat rw [place_append]
  simp only [State.statusWord, place_zeros, placeNat, Nat.zero_add, Nat.reduceAdd, BitVec.ofNat_eq_ofNat,
    BitVec.or_zero, BitVec.zero_or, BitVec.or_assoc]

theorem State.linkErrorsWord_layout (s : State) :
    s.linkErrorsWord = s.fe.contentionCount ++ s.cx.garble := by
  rw [← place_zero_self (_ ++ _)]
  repeat rw [place_append]
  simp only [State.linkErrorsWord, Nat.zero_add]

theorem SlotMap.genWord_layout (m : SlotMap) :
    m.genWord = 0#10 ++ BitVec.ofNat 6 (mapCount m.active) ++ m.generation := by
  rw [← place_zero_self (_ ++ _)]
  repeat rw [place_append]
  simp only [SlotMap.genWord, place_zeros, placeNat, Nat.zero_add, Nat.reduceAdd, BitVec.ofNat_eq_ofNat,
    BitVec.or_zero]

theorem SurveyResult.word_layout (r : SurveyResult) :
    r.word = r.failed ++ r.rejoined ++ r.joined ++ 0#2 ++
      BitVec.ofNat 2 r.electionFailures ++ 0#1 ++ r.outcome.code := by
  rw [← place_zero_self (_ ++ _)]
  repeat rw [place_append]
  simp only [SurveyResult.word, place_zeros, placeNat, Nat.zero_add, Nat.reduceAdd, BitVec.ofNat_eq_ofNat,
    BitVec.zero_or, BitVec.or_assoc]

theorem Commit.resultWord0_layout (c : Commit) :
    c.resultWord0 = BitVec.ofBool c.result.generation.isSome ++ BitVec.ofBool c.result.switchFrame.isSome ++
      BitVec.ofBool c.result.acked.isSome ++ BitVec.ofBool c.result.node.isSome ++ BitVec.ofBool c.result.slot.isSome ++
      BitVec.ofBool c.result.changeIndex.isSome ++ BitVec.ofBool c.result.reason.isSome ++
      BitVec.ofNat 5 ((c.result.slot.map Fin.val).getD 0) ++ BitVec.ofNat 4 (c.result.changeIndex.getD 0) ++
      (c.result.reason.map Reason.code).getD 0 ++ 0#1 ++ c.result.outcome.code ++ 0#2 ++ CommitMode.code c.result.mode ++
      0#1 ++ c.phase.code := by
  rw [← place_zero_self (_ ++ _)]
  repeat rw [place_append]
  simp only [Commit.resultWord0, place_zeros, placeNat, placeBool, Nat.zero_add, Nat.reduceAdd,
    BitVec.ofNat_eq_ofNat, BitVec.zero_or, BitVec.or_assoc]

theorem GapRecord.word0_layout (g : GapRecord) :
    g.word0 = g.frame ++ 1#1 ++ 0#2 ++ BitVec.ofBool g.lanes.isSome ++ BitVec.ofNat 4 (g.lanes.getD 0) ++ 0#2 ++
      g.kind.code ++ 0#1 ++ BitVec.ofNat 3 g.stream.val := by
  rw [← place_zero_self (_ ++ _)]
  repeat rw [place_append]
  simp only [GapRecord.word0, place_zeros, placeNat, placeBool, Nat.zero_add, Nat.reduceAdd, BitVec.ofNat_eq_ofNat,
    BitVec.ofBool_true, BitVec.zero_or, BitVec.or_assoc]

theorem FaultRecord.word_layout (f : FaultRecord) :
    FaultRecord.word (some f) = 1#1 ++ 0#9 ++ EnableDetail.code f.detail ++ BitVec.ofBool f.stream.isSome ++
      BitVec.ofNat 3 ((f.stream.map Fin.val).getD 0) ++ f.cause.code ++ f.offset := by
  rw [← place_zero_self (_ ++ _)]
  repeat rw [place_append]
  simp only [FaultRecord.word, place_zeros, placeNat, placeBool, Nat.zero_add, Nat.reduceAdd,
    BitVec.ofNat_eq_ofNat, BitVec.ofBool_true, BitVec.zero_or, BitVec.or_assoc]

theorem State.reqStatusWord_layout (s : State) :
    s.reqStatusWord = 0#18 ++ s.rq.discard.cause.code ++ BitVec.ofNat 4 s.rq.discard.count ++ 0#3 ++
      BitVec.ofBool s.headInFlight ++ BitVec.ofNat 4 s.rq.queue.length := by
  rw [← place_zero_self (_ ++ _)]
  repeat rw [place_append]
  simp only [State.reqStatusWord, place_zeros, placeNat, placeBool, Nat.zero_add, Nat.reduceAdd,
    BitVec.ofNat_eq_ofNat, BitVec.or_zero, BitVec.zero_or, BitVec.or_assoc]

theorem Completion.word0_layout (c : Completion) :
    c.word0 = 1#1 ++ 0#6 ++ BitVec.ofBool c.data.isSome ++ BitVec.ofNat 4 c.attempts ++ 0#1 ++ c.outcome.code ++
      addressBits c.addr ++ 0#1 ++ c.kind.code ++ c.tag := by
  rw [← place_zero_self (_ ++ _)]
  repeat rw [place_append]
  simp only [Completion.word0, place_zeros, placeNat, placeBool, Nat.zero_add, Nat.reduceAdd,
    BitVec.ofNat_eq_ofNat, BitVec.ofBool_true, BitVec.zero_or, BitVec.or_assoc]

theorem Entry.word0_layout (e : Entry) :
    e.word0 = e.lastHeard.extractLsb' 0 8 ++ ((e.caps.map Caps.b).getD 0).extractLsb' 0 5 ++
      ((e.caps.map Caps.a).getD 0).extractLsb' 0 9 ++ BitVec.ofBool e.caps.isSome ++ BitVec.ofNat 4 e.miss ++
      BitVec.ofBool e.resync ++ BitVec.ofBool e.seq ++ e.state.code := by
  rw [← BitVec.setWidth_eq_extractLsb' (by omega), ← BitVec.setWidth_eq_extractLsb' (by omega),
    ← BitVec.setWidth_eq_extractLsb' (by omega), ← place_zero_self (_ ++ _)]
  repeat rw [place_append]
  simp only [Entry.word0, placeNat, placeBool, Nat.zero_add, Nat.reduceAdd, BitVec.ofNat_eq_ofNat, BitVec.or_assoc]

theorem SlotRecord.word0_layout (m : SlotRecord) :
    SlotRecord.word0 (some m) = 1#1 ++ 0#8 ++ BitVec.ofNat 3 m.lane.val ++ 0#1 ++ BitVec.ofNat 3 m.stream.val ++ 0#2 ++
      BitVec.ofNat 6 m.width.bits ++ BitVec.ofBool m.dir.bit ++ BitVec.ofNat 3 m.port.val ++ addressBits m.owner := by
  rw [← place_zero_self (_ ++ _)]
  repeat rw [place_append]
  simp only [SlotRecord.word0, place_zeros, placeNat, placeBool, Nat.zero_add, Nat.reduceAdd,
    BitVec.ofNat_eq_ofNat, BitVec.ofBool_true, BitVec.zero_or, BitVec.or_assoc]

theorem Change.word0_add_layout (k : Fin 32) (m : SlotRecord) :
    Change.word0 (some (.add k m)) = 1#1 ++ BitVec.ofNat 3 m.lane.val ++ 0#1 ++ BitVec.ofNat 3 m.stream.val ++ 0#1 ++ m.width.code ++
      BitVec.ofBool m.dir.bit ++ BitVec.ofNat 3 m.port.val ++ addressBits m.owner ++ 0#3 ++ BitVec.ofNat 5 k.val ++ 0#2 ++
      0#2 := by
  rw [← place_zero_self (_ ++ _)]
  repeat rw [place_append]
  simp only [Change.word0, place_zeros, placeNat, placeBool, Nat.zero_add, Nat.reduceAdd, BitVec.ofNat_eq_ofNat,
    BitVec.ofBool_true, BitVec.zero_or, BitVec.or_assoc]

theorem Change.word0_drop_layout (k : Fin 32) :
    Change.word0 (some (.drop k)) = 1#1 ++ 0#22 ++ BitVec.ofNat 5 k.val ++ 0#2 ++ 1#2 := by
  rw [← place_zero_self (_ ++ _)]
  repeat rw [place_append]
  simp only [Change.word0, place_zeros, placeNat, placeBool, Nat.zero_add, Nat.reduceAdd, BitVec.ofNat_eq_ofNat,
    BitVec.ofBool_true, BitVec.zero_or, BitVec.or_assoc]

theorem Change.word0_move_layout (k : Fin 32) (start : BitVec 11) :
    Change.word0 (some (.move k start)) = 1#1 ++ 0#22 ++ BitVec.ofNat 5 k.val ++ 0#2 ++ 2#2 := by
  rw [← place_zero_self (_ ++ _)]
  repeat rw [place_append]
  simp only [Change.word0, place_zeros, placeNat, placeBool, Nat.zero_add, Nat.reduceAdd, BitVec.ofNat_eq_ofNat,
    BitVec.ofBool_true, BitVec.zero_or, BitVec.or_assoc]

theorem Stream.cfgWord_layout (st : Stream) :
    st.cfgWord = 0#6 ++ BitVec.ofNat 10 st.capacity ++ 0#9 ++ BitVec.ofBool st.fillMode.bit ++ BitVec.ofBool st.signExt ++
      BitVec.ofBool st.packing ++ st.width.code ++ BitVec.ofBool st.dir.bit := by
  rw [← place_zero_self (_ ++ _)]
  repeat rw [place_append]
  simp only [Stream.cfgWord, place_zeros, placeNat, placeBool, Nat.zero_add, Nat.reduceAdd, BitVec.ofNat_eq_ofNat,
    BitVec.or_zero, BitVec.zero_or, BitVec.or_assoc]

theorem Stream.levelsWord_layout (st : Stream) :
    st.levelsWord = 0#2 ++ st.startLevel ++ st.burst ++ st.service := by
  rw [← place_zero_self (_ ++ _)]
  repeat rw [place_append]
  simp only [Stream.levelsWord, place_zeros, Nat.zero_add, Nat.reduceAdd, BitVec.ofNat_eq_ofNat, BitVec.or_zero,
    BitVec.or_assoc]

theorem Stream.ctrlWord_layout (st : Stream) :
    st.ctrlWord = 0#25 ++ BitVec.ofBool st.drq ++ BitVec.ofBool st.half ++ BitVec.ofBool st.dma ++ 0#4 := by
  rw [← place_zero_self (_ ++ _)]
  repeat rw [place_append]
  simp only [Stream.ctrlWord, place_zeros, placeBool, Nat.zero_add, Nat.reduceAdd, BitVec.ofNat_eq_ofNat,
    BitVec.or_zero, BitVec.zero_or, BitVec.or_assoc]

theorem Stream.statusWord_layout (st : Stream) (records : Nat) :
    st.statusWord records = 0#6 ++ BitVec.ofNat 10 st.queue.length ++ 0#4 ++ BitVec.ofNat 4 records ++
      BitVec.ofNat 4 st.live.length ++ 0#1 ++ BitVec.ofBool st.xrun ++ st.state.code := by
  rw [← place_zero_self (_ ++ _)]
  repeat rw [place_append]
  simp only [Stream.statusWord, Stream.fill, place_zeros, placeNat, placeBool, Nat.zero_add, Nat.reduceAdd,
    BitVec.ofNat_eq_ofNat, BitVec.or_zero, BitVec.zero_or, BitVec.or_assoc]

theorem Stream.countsWord_layout (st : Stream) :
    st.countsWord = st.underruns ++ st.overruns := by
  rw [← place_zero_self (_ ++ _)]
  repeat rw [place_append]
  simp only [Stream.countsWord, Nat.zero_add]

/-! ### The window's words -/

theorem mapCount_eq_length (m : SlotTable) :
    mapCount m = ((List.finRange 32).filter fun k => (m[k]).isSome).length := by
  rw [mapCount, List.countP_eq_length_filter]
  rfl

theorem recordCount_eq_length (m : SlotTable) (n : Fin 8) :
    recordCount m n = ((List.finRange 32).filter fun k => match m[k] with
      | some r => decide (r.stream = n)
      | none => false).length := by
  rw [recordCount, List.countP_eq_length_filter]
  refine congrArg List.length (List.filter_congr fun k _ => ?_)
  cases m[k] with
  | none => rfl
  | some r => exact beq_eq_decide ..

theorem Dir.bit_eq (d : Dir) : d.bit = decide (d = .playback) := by
  cases d <;> rfl

theorem FillMode.bit_eq (f : FillMode) : f.bit = decide (f = .hold) := by
  cases f <;> rfl

theorem not_isEmpty_eq {α : Type} (l : List α) : (!l.isEmpty) = decide (l ≠ []) := by
  cases l <;> simp

theorem CommitResult.word1_applied {r : CommitResult} (e : r.outcome = .applied) :
    r.word1 = r.generation.getD 0 ++ r.switchFrame.getD 0 := by
  rw [← place_zero_self (_ ++ _)]
  repeat rw [place_append]
  simp only [CommitResult.word1, e, Nat.zero_add]

theorem CommitResult.word1_aborted {r : CommitResult} (e : r.outcome = .aborted) :
    r.word1 = 0#20 ++ (r.node.map addressBits).getD 0 ++ 0#1 ++ BitVec.ofNat 7 (r.acked.getD 0) := by
  rw [← place_zero_self (_ ++ _)]
  repeat rw [place_append]
  simp only [CommitResult.word1, e, placeNat, place_zeros, Nat.zero_add, Nat.reduceAdd, BitVec.zero_or, BitVec.or_zero, BitVec.ofNat_eq_ofNat]

/-- Zeros above a field add nothing: a field alone at the foot of its word. -/
theorem place_padded (m : Nat) {k : Nat} (x : BitVec k) : place 0 (BitVec.ofNat m 0 ++ x) = place 0 x := by
  rw [place_append, place_zeros]
  exact BitVec.or_zero

theorem word_of_foot {k : Nat} {w : Word} (x : BitVec k) (padded : place 0 w = place 0 x) : place 0 x = w := by
  rw [← padded, place_zero_self]

/-- The two words of each view. -/
theorem Reg.offset_directoryWords (a : NodeAddr) :
    (Reg.directory a false).offset = 0x100 + 8 * BitVec.ofNat 12 a.val ∧
    (Reg.directory a true).offset = 0x104 + 8 * BitVec.ofNat 12 a.val := by
  revert a
  decide

theorem Reg.offset_slotViewWords (k : Fin 32) :
    (Reg.slotView k false).offset = 0x200 + 8 * BitVec.ofNat 12 k.val ∧
    (Reg.slotView k true).offset = 0x204 + 8 * BitVec.ofNat 12 k.val := by
  revert k
  decide

theorem Reg.offset_changeViewWords (i : Fin 16) :
    (Reg.changeView i false).offset = 0x300 + 8 * BitVec.ofNat 12 i.val ∧
    (Reg.changeView i true).offset = 0x304 + 8 * BitVec.ofNat 12 i.val := by
  revert i
  decide

theorem State.evtRawWord_layout (s : State) :
    s.regWord .evtRaw = 0#20 ++ s.eu.sticky.extractLsb' 10 2 ++ BitVec.ofBool (!s.eu.gaps.isEmpty) ++
      BitVec.ofBool (!s.rq.completions.isEmpty) ++ s.eu.sticky.extractLsb' 0 8 := by
  rw [State.regWord, State.evtRaw_layout, ← place_zero_self (_ ++ _)]
  repeat rw [place_append]
  simp only [place_zeros, Nat.zero_add, Nat.reduceAdd, BitVec.ofNat_eq_ofNat, BitVec.or_zero]

theorem State.sevtRawWord_layout (s : State) : s.regWord .sevtRaw = 0#16 ++ s.eu.xrun ++ s.serviceBits := by
  rw [State.regWord, State.sevtRaw, ← place_zero_self (_ ++ _)]
  repeat rw [place_append]
  simp only [place_zeros, Nat.zero_add, Nat.reduceAdd, BitVec.ofNat_eq_ofNat, BitVec.or_zero]

/-- The words that hold no field stand as 0. -/
theorem CommitResult.word1_other {r : CommitResult} (a : r.outcome ≠ .applied) (b : r.outcome ≠ .aborted) :
    r.word1 = 0 := by
  unfold CommitResult.word1
  split
  next e => exact absurd e a
  next e => exact absurd e b
  all_goals rfl

theorem State.windowRead_reset (r : Reg) : State.reset.windowRead r.offset = r.resetWord := by
  rw [State.windowRead_alive rfl r.decodeOffset_offset]
  cases r with
  | directory a second => revert a second; decide
  | slotView k second => revert k second; decide
  | changeView i second => revert i second; decide
  | streamCfg n => revert n; decide
  | streamLevels n => revert n; decide
  | streamCtrl n => revert n; decide
  | streamStatus n => revert n; decide
  | streamCounts n => revert n; decide
  | streamSamples n => revert n; decide
  | dataPort n => rfl
  | _ => decide

/-- Settles O2: the offsets by the table both ways, and each layout by the lemma of its word. -/
theorem windowReadsAsTabled : Obligations.WindowReadsAsTabled := by
  refine ⟨fun r i => r.decodeOffset_within i.isLt, fun o r => wordOffset_of_decodeOffset, State.windowRead_reset,
    by decide, by decide, by decide, fun a k i second => ⟨Reg.offset_directory a second, Reg.offset_slotView k second,
      Reg.offset_changeView i second⟩, Reg.offset_stream, by decide, by decide, by decide, by decide, by decide, by decide,
    by decide, by decide, by decide, by decide, by decide, by decide, by decide, by decide, by decide, by decide,
    by decide, fun s alive => ?_⟩
  have read {o : WinOffset} (r : Reg) (e : decodeOffset o = some r) : s.windowRead o = s.regWord r :=
    State.windowRead_alive alive e
  have named {o : WinOffset} {r : Reg} (e : r.offset = o) : decodeOffset o = some r := e ▸ r.decodeOffset_offset
  refine ⟨read .id (by decide), (read .status (by decide)).trans s.statusWord_layout,
    (read .linkCfg (by decide)).trans s.fe.cfg.word_layout, (read .xchgCfg (by decide)).trans s.cx.cfg.word_layout,
    ?frame, (read .linkErrors (by decide)).trans s.linkErrorsWord_layout, ?generation,
    (read .surveyResult (by decide)).trans s.sv.result.word_layout,
    (read .commitResult0 (by decide)).trans s.ce.resultWord0_layout, ?applied, ?aborted, ?other, ?events, ?streamEvents,
    ?noFault, ?fault, ?faultCount, ?noGap, ?gap, read .reqStage0 (by decide), read .reqStage1 (by decide), ?requests,
    ?noCompletion, ?completion, read .chgStage0 (by decide), read .chgStage1 (by decide), ?changes, ?directory, ?slots,
    ?views, ?streams, ?blank⟩
  case frame => exact (read .frameNumber (by decide)).trans (word_of_foot s.fe.frameNo (place_padded 16 _))
  case generation =>
    rw [read .mapGen (by decide), ← mapCount_eq_length]
    exact s.sm.genWord_layout
  case applied =>
    intro e
    rw [read .commitResult1 (by decide)]
    exact CommitResult.word1_applied e
  case aborted =>
    intro e
    rw [read .commitResult1 (by decide)]
    exact CommitResult.word1_aborted e
  case other =>
    intro a b
    rw [read .commitResult1 (by decide)]
    exact CommitResult.word1_other a b
  case events =>
    rw [read .evtRaw (by decide), ← not_isEmpty_eq, ← not_isEmpty_eq]
    exact s.evtRawWord_layout
  case streamEvents => exact (read .sevtRaw (by decide)).trans s.sevtRawWord_layout
  case noFault =>
    intro e
    rw [read .faultRecord (by decide), State.regWord, e, FaultRecord.word]
  case fault =>
    intro f e
    rw [read .faultRecord (by decide), State.regWord, e]
    exact f.word_layout
  case faultCount => exact (read .faultCount (by decide)).trans (word_of_foot s.eu.faultCount (place_padded 24 _))
  case noGap =>
    intro e
    rw [read .gapHead0 (by decide), read .gapHead1 (by decide), State.regWord, State.regWord, e]
    exact ⟨rfl, rfl⟩
  case gap =>
    intro g rest e
    rw [read .gapHead0 (by decide), read .gapHead1 (by decide), State.regWord, State.regWord, e]
    exact ⟨g.word0_layout, rfl⟩
  case requests => exact (read .reqStatusFlush (by decide)).trans s.reqStatusWord_layout
  case noCompletion =>
    intro e
    rw [read .cplHead0 (by decide), read .cplHead1 (by decide), State.regWord, State.regWord, e]
    exact ⟨rfl, by decide⟩
  case completion =>
    intro c rest e
    rw [read .cplHead0 (by decide), read .cplHead1 (by decide), State.regWord, State.regWord, e]
    exact ⟨c.word0_layout, word_of_foot _ (place_padded 16 _)⟩
  case changes => exact (read .chgStatus (by decide)).trans (word_of_foot _ (place_padded 27 _))
  case directory =>
    intro a
    obtain ⟨first, second⟩ := Reg.offset_directoryWords a
    exact ⟨(read (.directory a false) (named first)).trans s.nd[a].word0_layout, read (.directory a true) (named second)⟩
  case slots =>
    intro k
    obtain ⟨first, second⟩ := Reg.offset_slotViewWords k
    rw [read (.slotView k false) (named first), read (.slotView k true) (named second)]
    simp only [State.regWord, if_neg Bool.false_ne_true, if_true]
    refine ⟨fun e => ?_, fun m e => ?_⟩
    · rw [e]
      exact ⟨rfl, by decide⟩
    · rw [e]
      refine ⟨?_, word_of_foot _ (place_padded 21 _)⟩
      rw [← Dir.bit_eq]
      exact SlotRecord.word0_layout m
  case views =>
    intro i
    dsimp only
    obtain ⟨first, second⟩ := Reg.offset_changeViewWords i
    rw [read (.changeView i false) (named first), read (.changeView i true) (named second), State.regWord, State.regWord,
      if_neg Bool.false_ne_true, if_pos rfl]
    refine ⟨fun e => ?_, fun k m e => ?_, fun k e => ?_, fun k start e => ?_⟩
    · rw [e]
      exact ⟨rfl, rfl⟩
    · rw [e, ← Dir.bit_eq]
      exact ⟨Change.word0_add_layout k m, word_of_foot _ (place_padded 21 _)⟩
    · rw [e]
      exact ⟨Change.word0_drop_layout k, rfl⟩
    · rw [e]
      exact ⟨Change.word0_move_layout k start, word_of_foot _ (place_padded 21 _)⟩
  case streams =>
    intro n
    dsimp only
    obtain ⟨cfg, levels, ctrl, status, counts, samples, -⟩ := Reg.offset_stream n
    have base : (Reg.streamCfg n).offset = 0x400 + 0x20 * BitVec.ofNat 12 n.val + 0 := cfg.trans (BitVec.add_zero _).symm
    rw [read _ (named base), read _ (named levels), read _ (named ctrl), read _ (named status),
      read _ (named counts), read _ (named samples), ← Dir.bit_eq, ← FillMode.bit_eq]
    exact ⟨Stream.cfgWord_layout _, Stream.levelsWord_layout _, Stream.ctrlWord_layout _,
      (congrArg s.su.streams[n].statusWord (recordCount_eq_length _ n)).trans (Stream.statusWord_layout _ _), Stream.countsWord_layout _, rfl⟩
  case blank =>
    simp only [List.forall_mem_cons]
    exact ⟨read .control (by decide), read .survey (by decide), read .commit (by decide), read .evtClear (by decide),
      read .sevtClear (by decide), read .gapPop (by decide), read .reqSubmit (by decide), read .cplPop (by decide),
      read .chgAppend (by decide), read .chgClear (by decide), by nofun⟩

/-! ### The rows of the host's writes while the part is not held -/

theorem exec_linkCfg_alive {s : State} (h : s.held = false) (w : Word) :
    exec (.linkCfg w) s = .next (s.writeLinkCfg w) :=
  congrArg _ (State.whenAlive_alive h (·.writeLinkCfg w))

theorem exec_xchgCfg_alive {s : State} (h : s.held = false) (w : Word) :
    exec (.xchgCfg w) s = .next (s.writeXchgCfg w) :=
  congrArg _ (State.whenAlive_alive h (·.writeXchgCfg w))

theorem exec_linkErrorsClear_alive {s : State} (h : s.held = false) :
    exec .linkErrorsClear s = .next s.clearLinkErrors :=
  congrArg _ (State.whenAlive_alive h State.clearLinkErrors)

theorem exec_evtClear_alive {s : State} (h : s.held = false) (w : Word) :
    exec (.evtClear w) s = .next (s.writeEvtClear w) :=
  congrArg _ (State.whenAlive_alive h (·.writeEvtClear w))

theorem exec_sevtClear_alive {s : State} (h : s.held = false) (w : Word) :
    exec (.sevtClear w) s = .next (s.writeSevtClear w) :=
  congrArg _ (State.whenAlive_alive h (·.writeSevtClear w))

theorem exec_reqSubmit_alive {s : State} (h : s.held = false) : exec .reqSubmit s = .next s.submitRequest :=
  congrArg _ (State.whenAlive_alive h State.submitRequest)

theorem exec_reqFlush_alive {s : State} (h : s.held = false) : exec .reqFlush s = .next s.flushRequests :=
  congrArg _ (State.whenAlive_alive h State.flushRequests)

theorem exec_cplPop_alive {s : State} (h : s.held = false) : exec .cplPop s = .next s.popCompletion :=
  congrArg _ (State.whenAlive_alive h State.popCompletion)

theorem exec_chgAppend_alive {s : State} (h : s.held = false) : exec .chgAppend s = .next s.appendChange :=
  congrArg _ (State.whenAlive_alive h State.appendChange)

theorem exec_streamCfg_alive {s : State} (h : s.held = false) (n : Fin 8) (w : Word) :
    exec (.streamCfg n w) s = .next (s.writeStreamCfg n w) :=
  congrArg _ (State.whenAlive_alive h (·.writeStreamCfg n w))

theorem exec_streamLevels_alive {s : State} (h : s.held = false) (n : Fin 8) (w : Word) :
    exec (.streamLevels n w) s = .next (s.writeStreamLevels n w) :=
  congrArg _ (State.whenAlive_alive h (·.writeStreamLevels n w))

theorem exec_countsClear_alive {s : State} (h : s.held = false) (n : Fin 8) :
    exec (.countsClear n) s = .next (s.clearCounts n) :=
  congrArg _ (State.whenAlive_alive h (·.clearCounts n))

theorem exec_playbackWrite_alive {s : State} (h : s.held = false) (n : Fin 8) (w : Word) :
    exec (.playbackWrite n w) s = .next (s.writePort n w) :=
  congrArg _ (State.whenAlive_alive h (·.writePort n w))

theorem exec_streamEnable_alive {s : State} (h : s.held = false) (n : Fin 8) (dma : Bool) :
    exec (.streamEnable n dma) s = .next (s.writeStreamCtrl n true false dma) :=
  congrArg _ (State.whenAlive_alive h (·.writeStreamCtrl n true false dma))

theorem exec_streamDisable_alive {s : State} (h : s.held = false) (n : Fin 8) (dma : Bool) :
    exec (.streamDisable n dma) s = .next (s.writeStreamCtrl n false true dma) :=
  congrArg _ (State.whenAlive_alive h (·.writeStreamCtrl n false true dma))

theorem exec_dmaEnable_alive {s : State} (h : s.held = false) (n : Fin 8) (dma : Bool) :
    exec (.dmaEnable n dma) s = .next (s.writeStreamCtrl n false false dma) :=
  congrArg _ (State.whenAlive_alive h (·.writeStreamCtrl n false false dma))

theorem State.writeReg_readOnly (s : State) {r : Reg} (h : r.isReadOnly = true) (w : Word) :
    s.writeReg r w = s.accessFault .readOnly r.offset := by
  cases r <;> simp only [Reg.isReadOnly, Bool.false_eq_true] at h <;> rfl

/-- A byte the write carries comes from the word written, any other reads 0 (R160). -/
theorem carriedWord_getLsbD (w : Word) (l : BitVec 4) {i : Nat} (h : i < 32) :
    (carriedWord w l).getLsbD i = (w.getLsbD i && l.getLsbD (i / 8)) := by
  simp only [carriedWord, BitVec.getLsbD_and, BitVec.getLsbD_or, apply_ite (BitVec.getLsbD · i)]
  interval_cases i <;> simp

/-- Settles O28: each word's write by the register's row, carried bytes first. -/
theorem registerWritesReachTheirRows : Obligations.RegisterWritesReachTheirRows := by
  intro s w alive
  have write {o : WinOffset} (r : Reg) (e : decodeOffset o = some r) :
      exec (.registerWrite o w 15) s = .next (s.writeReg r w) := exec_registerWrite_all alive e w
  have named (r : Reg) : exec (.registerWrite r.offset w 15) s = .next (s.writeReg r w) :=
    write r r.decodeOffset_offset
  refine ⟨fun r readOnly => (named r).trans (congrArg _ (s.writeReg_readOnly readOnly w)), write .chgStage0 (by decide),
    write .chgStage1 (by decide), write .reqStage0 (by decide), write .reqStage1 (by decide),
    (write .linkCfg (by decide)).trans (exec_linkCfg_alive alive w).symm,
    (write .xchgCfg (by decide)).trans (exec_xchgCfg_alive alive w).symm,
    (write .linkErrors (by decide)).trans (exec_linkErrorsClear_alive alive).symm,
    (write .evtEnable (by decide)).trans (exec_evtEnable_alive alive w).symm,
    (write .evtClear (by decide)).trans (exec_evtClear_alive alive w).symm,
    (write .sevtEnable (by decide)).trans (exec_sevtEnable_alive alive w).symm,
    (write .sevtClear (by decide)).trans (exec_sevtClear_alive alive w).symm,
    (write .gapPop (by decide)).trans (exec_gapPop_alive alive).symm,
    (write .reqSubmit (by decide)).trans (exec_reqSubmit_alive alive).symm,
    (write .reqStatusFlush (by decide)).trans (exec_reqFlush_alive alive).symm,
    (write .cplPop (by decide)).trans (exec_cplPop_alive alive).symm,
    (write .chgAppend (by decide)).trans (exec_chgAppend_alive alive).symm, fun n => ?_, fun o l => ?_⟩
  · refine ⟨(named _).trans (exec_streamCfg_alive alive n w).symm, (named _).trans (exec_streamLevels_alive alive n w).symm,
      (named _).trans (exec_countsClear_alive alive n).symm, (named _).trans (exec_playbackWrite_alive alive n w).symm,
      fun enable disable => ?_, fun enable disable => ?_, fun enable disable => ?_⟩
    · rw [named, exec_streamEnable_alive alive, State.writeReg, enable, disable]
    · rw [named, exec_streamDisable_alive alive, State.writeReg, enable, disable]
    · rw [named, exec_dmaEnable_alive alive, State.writeReg, enable, disable]
  · refine ⟨?_, fun i => carriedWord_getLsbD w l⟩
    simp only [exec, execRegisterWrite, carriedWord_all]

end Sys2Proof.Machine
end

section
/-! PROOFS. The host's writes to the link, its configuration, the event registers and the Request Queue (chapters 2, 3,
9 and 10). -/
namespace Sys2Proof.Machine

/-! ### CONTROL's link actions -/

theorem State.linkStart_down {s : State} (h : s.fe.link = .down) :
    s.linkStart = { s with
      fe := { s.fe with
        link := .syncing, session := s.fe.cfg, frameNo := 0, contentionRun := 0, syncCount := 0, quietCount := 0
        drainHeld := false, drainFromSync := false, pos := .started }
      cx := { s.cx with field := none } } :=
  if_pos h

theorem State.linkStart_refused {s : State} (h : s.fe.link ≠ .down) : s.linkStart = s.accessFault .stateRefused 0x004 :=
  if_neg h

/-- Settles O6: LINK_START by the two branches of R25. -/
theorem linkStartBeginsSession : Obligations.LinkStartBeginsSession := by
  intro s alive
  rw [exec_linkStart_alive alive]
  exact ⟨fun down => congrArg _ (State.linkStart_down down), fun other => congrArg _ (State.linkStart_refused other)⟩

theorem State.linkStop_syncing {s : State} (h : s.fe.link = .syncing) : s.linkStop = (s.beginDrain true).stopCommit := by
  rw [State.linkStop, h]

theorem State.linkStop_up {s : State} (h : s.fe.link = .up) : s.linkStop = (s.beginDrain false).stopCommit := by
  rw [State.linkStop, h]

theorem State.linkStop_draining {s : State} (h : s.fe.link = .draining) : s.linkStop = s := by
  rw [State.linkStop, h]

theorem State.linkStop_refused {s : State} (h : s.fe.link = .down ∨ s.fe.link = .fault) :
    s.linkStop = s.accessFault .stateRefused 0x004 := by
  rcases h with h | h <;> rw [State.linkStop, h] <;> rfl

theorem State.stagingInProgress_iff {s : State} :
    s.stagingInProgress = true ↔ ∃ r, s.cx.inFlight = some r ∧ r.source = .commit := by
  unfold State.stagingInProgress
  cases s.cx.inFlight with
  | none => simp
  | some r => simp

theorem State.stopCommit_pending {s : State} (h : s.ce.phase = .pending) : s.stopCommit = s.abortLinkStop 0 := by
  rw [State.stopCommit, h]

theorem State.stopCommit_staging {s : State} (h : s.ce.phase = .staging) :
    s.stopCommit = if s.stagingInProgress = true then s else s.abortLinkStop s.ce.acked := by
  rw [State.stopCommit, h]

theorem State.stopCommit_copies {s : State} (h : s.ce.phase = .switching ∨ s.ce.phase = .cancelling) :
    s.stopCommit = s := by
  rcases h with h | h <;> rw [State.stopCommit, h]

/-- Settles O7: LINK_STOP by the link state, then by the phase of the commit it finds. -/
theorem linkStopByState : Obligations.LinkStopByState := by
  refine ⟨fun s alive => ?_, fun s alive up => ?_⟩
  · rw [exec_linkStop_alive alive]
    refine ⟨fun syncing idle => congrArg _ ?_, fun up idle => congrArg _ ?_,
      fun draining => congrArg _ (State.linkStop_draining draining),
      fun stopped => congrArg _ (State.linkStop_refused stopped)⟩
    · rw [State.linkStop_syncing syncing, State.stopCommit_idle (s := s.beginDrain true) idle]
      rfl
    · rw [State.linkStop_up up, State.stopCommit_idle (s := s.beginDrain false) idle]
      rfl
  · rw [exec_linkStop_alive alive, State.linkStop_up up]
    refine ⟨fun pending => congrArg _ ?_, fun staging free => congrArg _ ?_, fun staging flying => congrArg _ ?_,
      fun copies => congrArg _ ?_⟩
    · exact State.stopCommit_pending (s := s.beginDrain false) pending
    · have none : ¬(s.beginDrain false).stagingInProgress = true := by
        rw [State.stagingInProgress_iff]
        rintro ⟨r, flies, commit⟩
        exact free r flies commit
      rw [State.stopCommit_staging (s := s.beginDrain false) staging, if_neg none]
      rfl
    · rw [State.stopCommit_staging (s := s.beginDrain false) staging,
        if_pos ((s.beginDrain false).stagingInProgress_iff.2 flying)]
      rfl
    · exact State.stopCommit_copies (s := s.beginDrain false) copies

/-! ### The entry into DOWN -/

theorem SlotTable.eq_empty_iff {m : SlotTable} : m = SlotTable.empty ↔ ∀ k : Fin 32, m[k] = none := by
  refine ⟨fun e k => e ▸ empty_get k, fun h => table_ext fun k => ?_⟩
  rw [h k, empty_get]

/-- The generation over the link-down clear (R82). -/
theorem SlotMap.linkDownClear_generation (sm : SlotMap) :
    ((∀ k : Fin 32, sm.active[k] = none) → sm.linkDownClear.generation = sm.generation) ∧
    ((∃ k : Fin 32, sm.active[k] ≠ none) → sm.linkDownClear.generation = sm.generation + 1) := by
  refine ⟨fun empty => if_pos (SlotTable.eq_empty_iff.2 empty), fun ⟨k, held⟩ => if_neg fun empty => ?_⟩
  exact held (SlotTable.eq_empty_iff.1 empty k)

theorem State.faultClear_fault {s : State} (h : s.fe.link = .fault) : s.faultClear = s.enterDown :=
  if_pos h

theorem State.faultClear_other {s : State} (h : s.fe.link ≠ .fault) : s.faultClear = s :=
  if_neg h

/-! ### enterDown -/

@[simp] theorem State.enterDown_fe (s : State) : s.enterDown.fe = { s.fe.linkDownClear with link := .down } := by
  rw [← State.linkDownClear_fe]
  rfl
@[simp] theorem State.enterDown_cx (s : State) : s.enterDown.cx = s.cx.linkDownClear := s.linkDownClear_cx
@[simp] theorem State.enterDown_nd (s : State) : s.enterDown.nd = Directory.allFree := rfl
@[simp] theorem State.enterDown_sm (s : State) : s.enterDown.sm = s.sm.linkDownClear := s.linkDownClear_sm
@[simp] theorem State.enterDown_ce (s : State) : s.enterDown.ce = s.ce.linkDownClear := s.linkDownClear_ce
@[simp] theorem State.enterDown_su (s : State) : s.enterDown.su = s.su.linkDownClear := s.linkDownClear_su
@[simp] theorem State.enterDown_rq (s : State) : s.enterDown.rq = s.rq.linkDownClear := s.linkDownClear_rq
@[simp] theorem State.enterDown_gaps (s : State) : s.enterDown.eu.gaps = s.eu.gaps := s.linkDownClear_gaps
@[simp] theorem State.enterDown_fault (s : State) : s.enterDown.eu.fault = s.eu.fault := by
  change s.linkDownClear.eu.fault = s.eu.fault
  rw [State.linkDownClear_eu]

theorem State.enterDown_linkDown (s : State) : s.enterDown.eu.sticky.getLsbD 1 = true := by
  rw [State.enterDown, State.raise_sticky _ _ (by omega)]
  exact Bool.or_true _

/-- The streams over the link-down clear: the live sets gone, the rest kept (R34). -/
theorem StreamUnit.linkDownClear_stream (su : StreamUnit) (n : Fin 8) :
    su.linkDownClear.streams[n] = { su.streams[n] with live := [], sinceStart := false } :=
  mapTable_get _ su.streams n

/-- Settles O8: the entry into DOWN, block by block. -/
theorem faultClearEntersDown : Obligations.FaultClearEntersDown := by
  intro s alive
  rw [exec_faultClear_alive alive]
  refine ⟨fun other => congrArg _ (State.faultClear_other other), fun fault => ⟨s.enterDown, ?_⟩⟩
  obtain ⟨kept, raised⟩ := s.sm.linkDownClear_generation
  simp only [State.faultClear_fault fault, State.enterDown_fe, State.enterDown_cx, State.enterDown_nd, State.enterDown_sm,
    State.enterDown_cl, State.enterDown_ce, State.enterDown_su, State.enterDown_rq, State.enterDown_gaps,
    State.enterDown_fault]
  exact ⟨trivial, trivial, rfl, rfl, rfl, rfl, rfl, allFree_get, empty_get, kept, raised, trivial, rfl, rfl, rfl, rfl,
    rfl, rfl, rfl, rfl, s.su.linkDownClear_stream, s.enterDown_linkDown, trivial, trivial⟩

/-! ### The configuration registers -/

theorem LinkCfg.legal_iff (c : LinkCfg) : c.legal = true ↔ c.n.toNat ≤ 56 ∧ 1 ≤ c.div.toNat ∧ c.div.toNat ≤ 64 := by
  simp [LinkCfg.legal, and_assoc]

theorem XchgCfg.legal_iff (c : XchgCfg) : c.legal = true ↔ c.wait ≠ 0 ∧ c.loss ≠ 0 := by
  simp [XchgCfg.legal]

/-- Settles O9: both configuration writes by the link state and the ranges of R22 and R54. -/
theorem configurationWritesInDown : Obligations.ConfigurationWritesInDown := by
  intro s w alive
  dsimp only
  rw [exec_linkCfg_alive alive, exec_xchgCfg_alive alive, State.writeLinkCfg, State.writeXchgCfg]
  refine ⟨fun down n d d' => ?_, fun down bad => ?_, fun other => ?_, fun down wait loss => ?_, fun down bad => ?_,
    fun other => ?_⟩
  · rw [if_pos down, if_pos ((linkCfgOf w).legal_iff.2 ⟨n, d, d'⟩)]
    rfl
  · have illegal : ¬(linkCfgOf w).legal = true := by
      rw [LinkCfg.legal_iff]
      simp only [linkCfgOf, bitsAt]
      omega
    rw [if_pos down, if_neg illegal]
    rfl
  · rw [if_neg other]
    rfl
  · rw [if_pos down, if_pos ((xchgCfgOf w).legal_iff.2 ⟨wait, loss⟩)]
    rfl
  · have illegal : ¬(xchgCfgOf w).legal = true := by
      rw [XchgCfg.legal_iff]
      exact fun ⟨wait, loss⟩ => bad.elim wait loss
    rw [if_pos down, if_neg illegal]
    rfl
  · rw [if_neg other]
    rfl

/-! ### The clears of events and counters -/

/-- The two list events of EVT_RAW read the lists alone (R152). -/
theorem State.evtRaw_lists (s : State) :
    s.evtRaw.getLsbD 8 = !s.rq.completions.isEmpty ∧ s.evtRaw.getLsbD 9 = !s.eu.gaps.isEmpty := by
  rw [State.evtRaw_layout]
  simp only [BitVec.getLsbD_append]
  exact ⟨by simp, by simp⟩

/-- A field cleared at the ones of a word. -/
theorem getLsbD_clearedBy {k : Nat} (x : BitVec k) (w : Word) (lo : Nat) {i : Nat} (h : i < k) :
    (x &&& ~~~(bitsAt w lo k)).getLsbD i = (x.getLsbD i && !w.getLsbD (lo + i)) := by
  simp [bitsAt, h]

/-- Settles O10: each clear takes the bits or counts it names and no other. -/
theorem eventsAndCountersCleared : Obligations.EventsAndCountersCleared := by
  refine ⟨fun s w alive => ⟨⟨s.writeEvtClear w, exec_evtClear_alive alive w, rfl, fun i h => ?_, ?_, ?_⟩,
    s.writeSevtClear w, exec_sevtClear_alive alive w, rfl, fun i h => getLsbD_clearedBy s.eu.xrun w 8 h, rfl⟩,
    fun s alive => ⟨exec_linkErrorsClear_alive alive, fun n => ⟨s.clearCounts n, exec_countsClear_alive alive n, ?_, ?_,
      rfl⟩⟩⟩
  · have cleared := getLsbD_clearedBy s.eu.sticky w 0 h
    rwa [Nat.zero_add] at cleared
  · rw [(s.writeEvtClear w).evtRaw_lists.1, s.evtRaw_lists.1]
    rfl
  · rw [(s.writeEvtClear w).evtRaw_lists.2, s.evtRaw_lists.2]
    rfl
  · exact upd_self ..
  · exact fun k other => upd_ne s.su.streams other.symm _

/-! ### The Request Queue's flush and pop -/

theorem State.flushRequests_waiting {s : State} (h : s.headInFlight = false) :
    s.flushRequests = s.setRq { s.rq with queue := [], discard := { count := s.rq.queue.length, cause := .flush } } := by
  simp [State.flushRequests, State.flushKeeps, h]

theorem State.flushRequests_flying {s : State} (h : s.headInFlight = true) {q : Request} {rest : List Request}
    (e : s.rq.queue = q :: rest) :
    s.flushRequests = s.setRq { s.rq with queue := [q], discard := { count := rest.length, cause := .flush } } := by
  simp [State.flushRequests, State.flushKeeps, h, e]

/-- Settles O21: the flush by whether the head is in flight, the pop by the completion list. -/
theorem flushAndCompletionPop : Obligations.FlushAndCompletionPop := by
  refine ⟨fun s alive => ⟨fun free => ?_, fun r q rest flies source e => ?_⟩,
    fun s alive => ⟨fun c rest e => ?_, fun e => ?_, ?_⟩⟩
  · have waiting : s.headInFlight = false := by
      refine Bool.eq_false_of_not_eq_true fun flying => ?_
      obtain ⟨r, flies, source⟩ := s.headInFlight_iff.1 flying
      exact free r flies source
    rw [exec_reqFlush_alive alive, State.flushRequests_waiting waiting]
    rfl
  · rw [exec_reqFlush_alive alive, State.flushRequests_flying (s.headInFlight_iff.2 ⟨r, flies, source⟩) e]
    rfl
  · rw [exec_cplPop_alive alive, State.popCompletion, e]
    rfl
  · rw [exec_cplPop_alive alive, State.popCompletion, e]
    rfl
  · rw [s.evtRaw_lists.1]
    cases s.rq.completions <;> simp

end Sys2Proof.Machine
end

section
/-! PROOFS. The judgement of an append and of a submission: the fields the staging words spell (R86, R87, R141, R142). -/
namespace Sys2Proof.Machine

/-! ### Field codes read back -/

theorem addressOf_eq_none_iff (x : BitVec 4) : addressOf x = none ↔ x = 0 ∨ x = 15 := by
  revert x
  decide

theorem addressOf_node {x : BitVec 4} (unbound : x ≠ 0) (broadcast : x ≠ 15) :
    ∃ a, addressOf x = some a ∧ a.val + 1 = x.toNat := by
  revert x
  decide

theorem Width.ofCode_eq_none_iff (c : BitVec 3) : Width.ofCode c = none ↔ 5 ≤ c.toNat := by
  revert c
  decide

theorem Width.ofCode_named {c : BitVec 3} (h : c.toNat ≤ 4) : ∃ w, Width.ofCode c = some w ∧ w.code = c := by
  obtain ⟨w, e⟩ : ∃ w, Width.ofCode c = some w := by
    rw [← Option.ne_none_iff_exists']
    exact fun none => absurd ((Width.ofCode_eq_none_iff c).1 none) (by omega)
  refine ⟨w, e, ?_⟩
  revert c w
  decide

theorem Dir.bit_ofBit (b : Bool) : (Dir.ofBit b).bit = b := by
  cases b <;> rfl

theorem startLegal_iff (x : BitVec 11) : startLegal x = true ↔ 128 ≤ x.toNat :=
  decide_eq_true_iff

/-! ### The staged change -/

theorem stagedChange_drop {w v : Word} (kind : bitsAt w 0 2 = 1) :
    stagedChange w v = some (.drop (slotOf (bitsAt w 4 5))) := by
  simp [stagedChange, kind]

theorem stagedChange_move {w v : Word} (kind : bitsAt w 0 2 = 2) :
    stagedChange w v =
      if startLegal (bitsAt v 0 11) = true then some (.move (slotOf (bitsAt w 4 5)) (bitsAt v 0 11)) else none := by
  simp [stagedChange, kind]

theorem stagedChange_noKind {w v : Word} (kind : bitsAt w 0 2 = 3) : stagedChange w v = none := by
  simp [stagedChange, kind]

/-- An ADD with a field out of range spells no change (R87). -/
theorem stagedChange_badAdd {w v : Word} (kind : bitsAt w 0 2 = 0)
    (bad : 5 ≤ (bitsAt w 20 3).toNat ∨ (bitsAt v 0 11).toNat < 128 ∨ bitsAt w 12 4 = 0 ∨ bitsAt w 12 4 = 15) :
    stagedChange w v = none := by
  rw [← Width.ofCode_eq_none_iff, ← addressOf_eq_none_iff] at bad
  rw [stagedChange, if_pos kind]
  rcases bad with width | start | owner
  · rw [width]
  · have low : ¬startLegal (bitsAt v 0 11) = true := by
      rw [startLegal_iff]
      omega
    split
    · rw [if_neg low]
    · rfl
  · rw [owner]
    split
    next e => cases e
    · rfl

/-- An ADD with every field in range spells its record (R87). -/
theorem stagedChange_add {w v : Word} (kind : bitsAt w 0 2 = 0) {width : Width} {owner : NodeAddr}
    (hw : Width.ofCode (bitsAt w 20 3) = some width) (ho : addressOf (bitsAt w 12 4) = some owner)
    (start : 128 ≤ (bitsAt v 0 11).toNat) :
    stagedChange w v = some (.add (slotOf (bitsAt w 4 5))
      { owner := owner, port := fin8Of (bitsAt w 16 3), dir := Dir.ofBit (w.getLsbD 19), width := width
        start := bitsAt v 0 11, stream := fin8Of (bitsAt w 24 3), lane := fin8Of (bitsAt w 28 3) }) := by
  rw [stagedChange, if_pos kind, hw, ho]
  exact if_pos ((startLegal_iff _).2 start)

theorem exec_chgAppend_full {s : State} (alive : s.held = false) (idle : s.ce.phase = .idle)
    (full : 16 ≤ s.cl.list.length) : exec .chgAppend s = .next (s.accessFault .listFull 0x0A8) := by
  have full : Config.changeListSize ≤ s.cl.list.length := full
  rw [exec_chgAppend_alive alive, State.appendChange, if_neg (not_not_intro idle), if_pos full]
  rfl

theorem exec_chgAppend_none {s : State} (alive : s.held = false) (idle : s.ce.phase = .idle)
    (room : s.cl.list.length < 16) (e : stagedChange s.cl.stage0 s.cl.stage1 = none) :
    exec .chgAppend s = .next (s.accessFault .fieldInvalid 0x0A8) := by
  have room : ¬Config.changeListSize ≤ s.cl.list.length := Nat.not_le.2 room
  rw [exec_chgAppend_alive alive, State.appendChange, if_neg (not_not_intro idle), if_neg room, e]
  rfl

theorem exec_chgAppend_some {s : State} (alive : s.held = false) (idle : s.ce.phase = .idle)
    (room : s.cl.list.length < 16) {c : Change} (e : stagedChange s.cl.stage0 s.cl.stage1 = some c) :
    exec .chgAppend s = .next { s with cl := { s.cl with list := s.cl.list ++ [c] } } := by
  have room : ¬Config.changeListSize ≤ s.cl.list.length := Nat.not_le.2 room
  rw [exec_chgAppend_alive alive, State.appendChange, if_neg (not_not_intro idle), if_neg room, e]
  rfl

/-- Settles O15: the three refusals in order, then the staged record by its kind. -/
theorem appendJudged : Obligations.AppendJudged := by
  intro s alive
  refine ⟨fun busy => exec_chgAppend_busy alive busy, exec_chgAppend_full alive, fun idle room => ?_⟩
  refine ⟨fun kind => exec_chgAppend_none alive idle room (stagedChange_noKind kind),
    fun kind bad => exec_chgAppend_none alive idle room (stagedChange_badAdd kind bad), fun kind low => ?_,
    fun kind => exec_chgAppend_some alive idle room (stagedChange_drop kind), fun kind start => ?_,
    fun kind code start unbound broadcast => ?_⟩
  · refine exec_chgAppend_none alive idle room ?_
    rw [stagedChange_move kind, if_neg]
    rw [startLegal_iff]
    exact Nat.not_le.2 low
  · refine exec_chgAppend_some alive idle room ?_
    rw [stagedChange_move kind]
    exact if_pos ((startLegal_iff _).2 start)
  · obtain ⟨width, hw, widthCode⟩ := Width.ofCode_named code
    obtain ⟨owner, ho, ownerAddress⟩ := addressOf_node unbound broadcast
    exact ⟨_, exec_chgAppend_some alive idle room (stagedChange_add kind hw ho start), rfl, ownerAddress, rfl,
      Dir.bit_ofBit _, widthCode, rfl, rfl⟩

/-! ### The staged request -/

theorem stagedOp_eq_none {w v : Word} (h : 6 ≤ (bitsAt w 8 3).toNat) : stagedOp w v = none := by
  have two : bitsAt w 8 3 = 6 ∨ bitsAt w 8 3 = 7 := by
    revert h
    generalize bitsAt w 8 3 = kind
    revert kind
    decide
  rcases two with kind | kind <;> simp [stagedOp, kind]

/-- The kinds 0 to 5 with the fields each has (R141). -/
theorem stagedOp_eq_some {w v : Word} (h : (bitsAt w 8 3).toNat ≤ 5) :
    stagedOp w v = some (if bitsAt w 8 3 = 0 then .nodeRead (bitsAt w 16 8)
      else if bitsAt w 8 3 = 1 then .nodeWrite (bitsAt w 16 8) (bitsAt v 0 16)
      else if bitsAt w 8 3 = 2 then .park else if bitsAt w 8 3 = 3 then .resume
      else if bitsAt w 8 3 = 4 then .release else .ping) := by
  have six : bitsAt w 8 3 = 0 ∨ bitsAt w 8 3 = 1 ∨ bitsAt w 8 3 = 2 ∨ bitsAt w 8 3 = 3 ∨ bitsAt w 8 3 = 4 ∨
      bitsAt w 8 3 = 5 := by
    revert h
    generalize bitsAt w 8 3 = kind
    revert kind
    decide
  rcases six with kind | kind | kind | kind | kind | kind <;> simp [stagedOp, kind]

theorem stagedRequest_eq_none {w v : Word} (h : stagedOp w v = none ∨ addressOf (bitsAt w 12 4) = none) :
    stagedRequest w v = none := by
  unfold stagedRequest
  rcases h with op | addr
  · rw [op]
  · rw [addr]
    split
    next e => cases e
    · rfl

/-- Settles O20: the two refusals in order, then the request at the tail. -/
theorem submissionJudged : Obligations.SubmissionJudged := by
  intro s alive
  dsimp only
  rw [exec_reqSubmit_alive alive, State.submitRequest]
  refine ⟨fun full => ?_, fun room bad => ?_, fun room kind unbound broadcast => ?_⟩
  · have full : Config.requestQueueSize ≤ s.rq.queue.length := full
    rw [if_pos full]
    rfl
  · have room : ¬Config.requestQueueSize ≤ s.rq.queue.length := Nat.not_le.2 room
    have unstaged : stagedRequest s.rq.stage0 s.rq.stage1 = none :=
      stagedRequest_eq_none (bad.imp stagedOp_eq_none (addressOf_eq_none_iff _).2)
    rw [if_neg room, unstaged]
    rfl
  · have room : ¬Config.requestQueueSize ≤ s.rq.queue.length := Nat.not_le.2 room
    obtain ⟨a, ha, address⟩ := addressOf_node unbound broadcast
    have ha : addressOf (bitsAt s.rq.stage0 12 4) = some a := ha
    refine ⟨a, address, ?_⟩
    rw [if_neg room, stagedRequest, stagedOp_eq_some kind, ha]
    rfl

end Sys2Proof.Machine
end

section
/-! PROOFS. The host's writes to a stream's block and the accesses to its data port (chapters 7.2, 7.4, 7.8 and 8). -/
namespace Sys2Proof.Machine

/-! ### One stream replaced -/

theorem State.setStream_at (s : State) (n : Fin 8) (st : Stream) : (s.setStream n st).su.streams[n] = st :=
  upd_self ..

theorem State.setStream_other (s : State) (n : Fin 8) (st : Stream) (k : Fin 8) (h : k ≠ n) :
    (s.setStream n st).su.streams[k] = s.su.streams[k] :=
  upd_ne s.su.streams h.symm st

theorem State.stream_setStream (s : State) (n : Fin 8) (st : Stream) : (s.setStream n st).stream n = st :=
  upd_self ..

/-! ### CFG -/

theorem Width.isNarrow_iff (w : Width) : (w = .w8 ∨ w = .w16) ↔ w.code.toNat ≤ 1 := by
  cases w <;> decide

/-- A valid CFG word names its width (R113). -/
theorem StreamCfgFields.validWidth_some {c : StreamCfgFields} (code : c.width.toNat ≤ 4) (capacity : c.capacity ≤ 512)
    (eights : c.capacity % 8 = 0) (packing : c.packing = true → c.width.toNat ≤ 1) :
    ∃ w, c.validWidth = some w ∧ w.code = c.width := by
  obtain ⟨w, named, coded⟩ := Width.ofCode_named code
  refine ⟨w, ?_, coded⟩
  rw [StreamCfgFields.validWidth, named]
  exact if_pos ⟨capacity, eights, fun packed => w.isNarrow_iff.2 (coded ▸ packing packed)⟩

/-- A CFG word with a width is valid (R113). -/
theorem StreamCfgFields.validWidth_none {c : StreamCfgFields}
    (bad : ¬(c.width.toNat ≤ 4 ∧ c.capacity ≤ 512 ∧ c.capacity % 8 = 0 ∧ (c.packing = true → c.width.toNat ≤ 1))) :
    c.validWidth = none := by
  unfold StreamCfgFields.validWidth
  split
  next w named =>
    have code : c.width.toNat ≤ 4 := by
      by_contra high
      exact nomatch named.symm.trans ((Width.ofCode_eq_none_iff c.width).2 (by omega))
    obtain ⟨w', named', coded⟩ := Width.ofCode_named code
    cases named.symm.trans named'
    refine if_neg fun ⟨capacity, eights, packing⟩ => bad ⟨code, capacity, eights, fun packed => ?_⟩
    exact coded ▸ w.isNarrow_iff.1 (packing packed)
  next => rfl

/-- Settles O22: the three refusals of R113 in order, then the fields taken. -/
theorem streamCfgJudged : Obligations.StreamCfgJudged := by
  intro s n w alive
  dsimp only
  obtain ⟨offset, -⟩ := Reg.offset_stream n
  rw [exec_streamCfg_alive alive, State.writeStreamCfg, offset]
  refine ⟨fun enabled => ?_, fun disabled bad => ?_, fun disabled valid exceeds => ?_, fun disabled valid fits => ?_⟩
  · have on : (s.stream n).enabled = true := Stream.enabled_iff.2 enabled
    rw [if_pos on]
  all_goals
    have off : ¬(s.stream n).enabled = true := fun on => Stream.enabled_iff.1 on disabled
    rw [if_neg off]
  · rw [StreamCfgFields.validWidth_none (c := streamCfgOf w) bad]
  · obtain ⟨code, capacity, eights, packing⟩ := valid
    obtain ⟨width, named, -⟩ := StreamCfgFields.validWidth_some (c := streamCfgOf w) code capacity eights packing
    rw [named]
    exact congrArg _ (if_pos exceeds)
  · obtain ⟨code, capacity, eights, packing⟩ := valid
    obtain ⟨width, named, coded⟩ := StreamCfgFields.validWidth_some (c := streamCfgOf w) code capacity eights packing
    rw [named]
    exact ⟨_, width, congrArg _ (if_neg (Nat.not_lt.2 fits)), coded, rfl, s.setStream_other n _, s.setStream_at n _⟩

/-! ### LEVELS, SERVICE and DRQ -/

theorem bitOf_getLsbD (b : Bool) (n i : Fin 8) :
    ((BitVec.ofBool b).setWidth 8 <<< n.val).getLsbD i.val = (decide (n = i) && b) := by
  revert b n i
  decide

/-- A fold that sets bit `n` for each `n` of a list at which `f` holds. -/
theorem foldl_setBit_getLsbD (f : Fin 8 → Bool) (l : List (Fin 8)) (acc : BitVec 8) (i : Fin 8) :
    (l.foldl (fun acc n => acc ||| ((BitVec.ofBool (f n)).setWidth 8 <<< n.val)) acc).getLsbD i.val =
      (acc.getLsbD i.val || l.any fun n => decide (n = i) && f n) := by
  induction l generalizing acc with
  | nil => simp
  | cons n l ih => rw [List.foldl_cons, ih, BitVec.getLsbD_or, bitOf_getLsbD, List.any_cons, Bool.or_assoc]

theorem State.serviceBits_getLsbD (s : State) (n : Fin 8) : s.serviceBits.getLsbD n.val = s.su.streams[n].serviceLevel := by
  rw [State.serviceBits, foldl_setBit_getLsbD (fun k => s.su.streams[k].serviceLevel)]
  have one : (streamNumbers.any fun k => decide (k = n) && s.su.streams[k].serviceLevel) =
      s.su.streams[n].serviceLevel := by
    rw [Bool.eq_iff_iff, List.any_eq_true]
    simp [mem_streamNumbers]
  rw [one]
  simp

/-- The three levels of LEVELS read as written. -/
theorem levels_word (w : Word) :
    0#2 ++ w.extractLsb' 20 10 ++ w.extractLsb' 10 10 ++ w.extractLsb' 0 10 = w &&& 0x3FFFFFFF := by
  refine BitVec.eq_of_getLsbD_eq fun i hi => ?_
  simp only [BitVec.getLsbD_append]
  interval_cases i <;> simp

theorem Stream.effective_whole {st : Stream} {level : BitVec 10} (h : level = 0 ∨ st.capacity < level.toNat) :
    st.effective level = st.capacity :=
  if_pos h

theorem Stream.effective_level {st : Stream} {level : BitVec 10} (named : level ≠ 0) (within : level.toNat ≤ st.capacity) :
    st.effective level = level.toNat :=
  if_neg fun h => h.elim named (Nat.not_lt.2 within)

/-- Settles O23: the levels set and the line judged, with the two levels by their conditions. -/
theorem levelsTaken : Obligations.LevelsTaken := by
  refine ⟨fun s n w alive => ?_, fun st level => ?_, fun st => ⟨Stream.serviceLevel_iff, Stream.drqLevel_iff⟩,
    State.serviceBits_getLsbD⟩
  · rw [exec_streamLevels_alive alive]
    refine ⟨s.writeStreamLevels n w, rfl, rfl, s.setStream_other n _, ?_, ?_, State.serviceBits_getLsbD _ n⟩
    · rw [State.writeStreamLevels, State.setStream_at]
      rfl
    · rw [← levels_word, State.writeStreamLevels, State.regWord, State.setStream_at]
      exact Stream.levelsWord_layout _
  · exact ⟨fun zero => Stream.effective_whole (.inl zero), fun above => Stream.effective_whole (.inr above),
      Stream.effective_level⟩

/-! ### CTRL -/

theorem Reg.offset_streamCtrl (n : Fin 8) : (Reg.streamCtrl n).offset = 0x408 + 0x20 * BitVec.ofNat 12 n.val := by
  revert n
  decide

theorem State.mem_enableMaps {s : State} {m : SlotTable} :
    m ∈ s.enableMaps ↔ m = s.sm.active ∨ s.ce.pending = some m := by
  unfold State.enableMaps
  cases s.ce.pending with
  | none => simp
  | some p => simp [eq_comm]

theorem mapMismatch_iff {m : SlotTable} {n : Fin 8} {st : Stream} :
    mapMismatch m n st = true ↔
      ∃ (k : Fin 32) (r : SlotRecord), m[k] = some r ∧ r.stream = n ∧ (r.dir ≠ st.dir ∨ r.width ≠ st.width) := by
  rw [mapMismatch, List.any_eq_true]
  refine exists_congr fun k => ?_
  rw [and_iff_right (mem_slotNumbers k)]
  cases m[k] <;> simp

theorem State.setDma_stream (s : State) (n : Fin 8) (dma : Bool) :
    (s.setDma n dma).stream n = ({ s.stream n with dma := dma } : Stream).judged :=
  s.stream_setStream n _

/-- The DMA bit plays no part in an enable's judgement. -/
theorem State.setDma_enableRefusal (s : State) (n : Fin 8) (dma : Bool) :
    (s.setDma n dma).enableRefusal n = s.enableRefusal n := by
  simp only [State.enableRefusal, State.setDma_stream]
  rfl

theorem State.enableRefusal_noCapacity {s : State} {n : Fin 8} (none : s.su.streams[n].capacity = 0) :
    s.enableRefusal n = some .noCapacity :=
  if_pos none

theorem State.enableRefusal_short {s : State} {n : Fin 8} (some' : s.su.streams[n].capacity ≠ 0)
    (short : ∃ m, (m = s.sm.active ∨ s.ce.pending = some m) ∧ s.su.streams[n].capacity < recordCount m n) :
    s.enableRefusal n = some .capacityShort := by
  obtain ⟨m, held, short⟩ := short
  refine (if_neg some').trans (if_pos ?_)
  rw [List.any_eq_true]
  exact ⟨m, State.mem_enableMaps.2 held, decide_eq_true short⟩

/-- With room for the records of both maps an enable is refused only for a mismatch (R117). -/
theorem State.enableRefusal_roomy {s : State} {n : Fin 8} (some' : s.su.streams[n].capacity ≠ 0)
    (roomy : ¬∃ m, (m = s.sm.active ∨ s.ce.pending = some m) ∧ s.su.streams[n].capacity < recordCount m n) :
    s.enableRefusal n =
      if (s.enableMaps.any fun m => mapMismatch m n (s.stream n)) = true then some .mismatch else none := by
  refine (if_neg some').trans (if_neg ?_)
  rw [List.any_eq_true]
  rintro ⟨m, held, short⟩
  exact roomy ⟨m, State.mem_enableMaps.1 held, of_decide_eq_true short⟩

theorem State.any_mapMismatch_iff {s : State} {n : Fin 8} :
    (s.enableMaps.any fun m => mapMismatch m n (s.stream n)) = true ↔
      ∃ m, (m = s.sm.active ∨ s.ce.pending = some m) ∧ ∃ (k : Fin 32) (r : SlotRecord), m[k] = some r ∧ r.stream = n ∧
        (r.dir ≠ s.su.streams[n].dir ∨ r.width ≠ s.su.streams[n].width) := by
  rw [List.any_eq_true]
  exact exists_congr fun m => and_congr State.mem_enableMaps mapMismatch_iff

/-- The state an ENABLE leaves of a DISABLED stream, by its refusal (R116 to R118). -/
theorem exec_streamEnable_refused {s : State} {n : Fin 8} {dma : Bool} (alive : s.held = false)
    (disabled : s.su.streams[n].state = .disabled) {d : EnableDetail} (e : s.enableRefusal n = some d) :
    exec (.streamEnable n dma) s =
      .next ((s.setDma n dma).accessFault .enableRefused (0x408 + 0x20 * BitVec.ofNat 12 n.val) (some d)) := by
  have off : ¬((s.setDma n dma).stream n).enabled = true := by
    rw [State.setDma_stream, Stream.enabled_iff]
    exact not_not_intro disabled
  rw [exec_streamEnable_alive alive, State.writeStreamCtrl, State.enableStream, if_neg off, State.setDma_enableRefusal, e,
    Reg.offset_streamCtrl]

theorem exec_streamEnable_enabled {s : State} {n : Fin 8} (dma : Bool) (alive : s.held = false)
    (enabled : s.su.streams[n].state ≠ .disabled) : exec (.streamEnable n dma) s = exec (.dmaEnable n dma) s := by
  have on : ((s.setDma n dma).stream n).enabled = true := by
    rw [State.setDma_stream, Stream.enabled_iff]
    exact enabled
  rw [exec_streamEnable_alive alive, exec_dmaEnable_alive alive, State.writeStreamCtrl, State.enableStream, if_pos on]
  rfl

theorem exec_streamEnable_accepted {s : State} {n : Fin 8} (dma : Bool) (alive : s.held = false)
    (disabled : s.su.streams[n].state = .disabled) (e : s.enableRefusal n = none) :
    exec (.streamEnable n dma) s = .next (((s.setDma n dma).setStream n
      (({ s.stream n with dma := dma } : Stream).enable (liveSlots s.sm.active s.nd n))).recordGap
        (startRecord n s.fe.frameNo (liveSlots s.sm.active s.nd n))) := by
  have off : ¬((s.setDma n dma).stream n).enabled = true := by
    rw [State.setDma_stream, Stream.enabled_iff]
    exact not_not_intro disabled
  rw [exec_streamEnable_alive alive, State.writeStreamCtrl, State.enableStream, if_neg off, State.setDma_enableRefusal, e,
    State.setDma_stream]
  rfl

theorem State.recordGap_room {s : State} (room : s.eu.gaps.length < 16) (g : GapRecord) :
    (s.recordGap g).eu = { s.eu with gaps := s.eu.gaps ++ [g] } := by
  have taken : s.recordGap g = s.setEu { s.eu with gaps := s.eu.gaps ++ [g] } := if_pos room
  rw [taken]
  rfl

theorem State.recordGap_full {s : State} (full : 16 ≤ s.eu.gaps.length) (g : GapRecord) :
    (s.recordGap g).eu = { s.eu with sticky := s.eu.sticky ||| 0x400 } := by
  have dropped : s.recordGap g = s.raise .gapOverflow := if_neg (Nat.not_lt.2 full)
  rw [dropped]
  rfl

/-- Settles O24: no refusal of R117 holds, so the context is set afresh and the START record handed over. -/
theorem streamEnabled : Obligations.StreamEnabled := by
  intro s n dma alive
  refine ⟨fun disabled capacity fits => ?_, exec_streamEnable_enabled dma alive⟩
  have accepted : s.enableRefusal n = none := by
    rw [State.enableRefusal_roomy capacity fun ⟨m, held, short⟩ => Nat.not_lt.2 (fits m held).1 short]
    refine if_neg fun found => ?_
    obtain ⟨m, held, k, r, slot, stream, differs⟩ := State.any_mapMismatch_iff.1 found
    obtain ⟨dir, width⟩ := (fits m held).2 k r slot stream
    exact differs.elim (absurd dir) (absurd width)
  refine ⟨_, exec_streamEnable_accepted dma alive disabled accepted, ?_, ?_, ?_, fun k other => ?_, fun room => ?_,
    fun full => ?_⟩
  · unfold State.recordGap
    split <;> rfl
  · rw [State.recordGap_su]
    rfl
  · rw [State.recordGap_su, State.setStream_at]
    rfl
  · rw [State.recordGap_su, State.setStream_other _ _ _ _ other]
    exact s.setStream_other n _ k other
  · exact State.recordGap_room (s := (s.setDma n dma).setStream n _) room _
  · exact State.recordGap_full (s := (s.setDma n dma).setStream n _) full _

/-- A disable leaves the stream DISABLED and empty with its line low; a DISABLED stream stands (R119). -/
theorem Stream.disable_enabled {st : Stream} (h : st.state ≠ .disabled) :
    st.disable = { st with state := .disabled, queue := [], sinceStart := false, drq := false } := by
  rw [Stream.disable, if_pos (Stream.enabled_iff.2 h), Stream.judged, Stream.drqLevel_disabled rfl]

theorem Stream.judged_disabled {st : Stream} (h : st.state = .disabled) : st.judged = { st with drq := false } := by
  rw [Stream.judged, Stream.drqLevel_disabled h]

theorem Stream.disable_disabled {st : Stream} (h : st.state = .disabled) : st.disable = st :=
  if_neg fun on => Stream.enabled_iff.1 on h

/-- Settles O25: the refusals by R117's order, then DISABLE, the DMA bit, and both actions at once. -/
theorem streamControlTaken : Obligations.StreamControlTaken := by
  refine ⟨fun s n dma alive disabled => ?_, fun s n dma alive => ⟨?_, ?_, fun w enable disable => ?_⟩⟩
  · have refused {d : EnableDetail} (e : s.enableRefusal n = some d) : ∃ t, exec (.dmaEnable n dma) s = .next t ∧
        exec (.streamEnable n dma) s =
          .next (t.accessFault .enableRefused (0x408 + 0x20 * BitVec.ofNat 12 n.val) (some d)) :=
      ⟨s.setDma n dma, exec_dmaEnable_alive alive n dma, exec_streamEnable_refused alive disabled e⟩
    refine ⟨fun none => refused (State.enableRefusal_noCapacity none),
      fun capacity short => refused (State.enableRefusal_short capacity short),
      fun capacity roomy mismatch => refused ?_⟩
    rw [State.enableRefusal_roomy capacity roomy, if_pos (State.any_mapMismatch_iff.2 mismatch)]
  · refine ⟨(s.setDma n dma).disableStream n, exec_streamDisable_alive alive n dma, rfl, fun k other => ?_,
      fun enabled => ?_, fun disabled => ?_⟩
    · rw [State.disableStream, State.setStream_other _ _ _ _ other]
      exact s.setStream_other n _ k other
    · rw [State.disableStream, State.setStream_at, State.setDma_stream,
        Stream.disable_enabled (st := ({ s.stream n with dma := dma } : Stream).judged) enabled]
      rfl
    · rw [State.disableStream, State.setStream_at, State.setDma_stream,
        Stream.disable_disabled (st := ({ s.stream n with dma := dma } : Stream).judged) disabled]
      exact Stream.judged_disabled (st := { s.stream n with dma := dma }) disabled
  · exact ⟨s.setDma n dma, exec_dmaEnable_alive alive n dma, rfl, s.setStream_other n _, s.setStream_at n _⟩
  · rw [← Reg.offset_streamCtrl, exec_registerWrite_all alive (Reg.decodeOffset_offset _), State.writeReg, enable, disable]
    rfl

/-! ### The data ports -/

theorem Reg.offset_dataPort (n : Fin 8) : (Reg.dataPort n).offset = 0x800 + 4 * BitVec.ofNat 12 n.val := by
  revert n
  decide

theorem setWidth_setWidth_getLsbD (k : Nat) (x : BitVec 32) {i : Nat} (h : i < 32) :
    ((x.setWidth k).setWidth 32).getLsbD i = (decide (i < k) && x.getLsbD i) := by
  simp only [BitVec.getLsbD_setWidth, h, decide_true, Bool.true_and]

theorem signExtend_setWidth_getLsbD {k : Nat} (some : 0 < k) (x : BitVec 32) {i : Nat} (h : i < 32) :
    ((x.setWidth k).signExtend 32).getLsbD i = if i < k then x.getLsbD i else x.getLsbD (k - 1) := by
  rw [BitVec.getLsbD_signExtend, BitVec.msb_eq_getLsbD_last]
  have last : k - 1 < k := by omega
  by_cases low : i < k <;> simp only [h, low, last, BitVec.getLsbD_setWidth, decide_true, Bool.true_and, if_true, if_false]

/-- The low bits of a sample (R115, R134). -/
theorem Width.lowBits_getLsbD (w : Width) (x : Sample) (i : Nat) (h : i < 32) :
    (w.lowBits x).getLsbD i = (decide (i < w.bits) && x.getLsbD i) := by
  cases w with
  | w32 => exact (Bool.true_and _).symm.trans (congrArg (· && _) (decide_eq_true h).symm)
  | _ => exact setWidth_setWidth_getLsbD _ x h

/-- A sample with its sign extended to the word (R132). -/
theorem Width.extend_true_getLsbD (w : Width) (x : Sample) (i : Nat) (h : i < 32) :
    (w.extend true x).getLsbD i = if i < w.bits then x.getLsbD i else x.getLsbD (w.bits - 1) := by
  cases w with
  | w32 => exact (if_pos h).symm
  | _ => exact signExtend_setWidth_getLsbD (by decide) x h

theorem Width.extend_false (w : Width) (x : Sample) : w.extend false x = w.lowBits x :=
  if_neg Bool.false_ne_true

theorem Width.extendHalf_getLsbD (w : Width) (signExt : Bool) (x : Sample) (i : Nat) (h : i < 16) :
    (w.extendHalf signExt x).getLsbD i = (w.extend signExt x).getLsbD i := by
  simp [Width.extendHalf, h]

theorem exec_captureRead_alive {s : State} (h : s.held = false) (n : Fin 8) :
    exec (.captureRead n) s = .next (s.readPort n) := by
  simp only [exec, execCaptureRead, h, Bool.false_eq_true, if_false]

theorem State.readPort_disabled {s : State} {n : Fin 8} (h : s.su.streams[n].state = .disabled) :
    s.readPort n = (s.setReadData 0).accessFault .streamDisabled (Reg.dataPort n).offset :=
  if_pos (Stream.not_enabled_iff.2 h)

theorem State.readPort_playback {s : State} {n : Fin 8} (on : s.su.streams[n].state ≠ .disabled)
    (dir : s.su.streams[n].dir = .playback) :
    s.readPort n = (s.setReadData 0).accessFault .wrongDirection (Reg.dataPort n).offset := by
  have on : ¬(s.stream n).enabled = false := fun off => on (Stream.not_enabled_iff.1 off)
  have dir : (s.stream n).dir = .playback := dir
  rw [State.readPort, if_neg on, dir]

/-- A read of an enabled capture port, by what the stream's head gives (R131). -/
theorem State.readPort_capture {s : State} {n : Fin 8} (on : s.su.streams[n].state ≠ .disabled)
    (dir : s.su.streams[n].dir = .capture) {w : Word} {st : Stream} {dry : Bool}
    (e : s.su.streams[n].captureRead = (w, st, dry)) :
    s.readPort n = if dry = true then (s.setReadData w).accessFault .dry (Reg.dataPort n).offset
      else (s.setReadData w).setStream n st := by
  have on : ¬(s.stream n).enabled = false := fun off => on (Stream.not_enabled_iff.1 off)
  have dir : (s.stream n).dir = .capture := dir
  have e : (s.stream n).captureRead = (w, st, dry) := e
  rw [State.readPort, if_neg on, dir, e]

theorem Stream.captureRead_empty {st : Stream} (empty : st.queue = []) : st.captureRead = (0, st, true) := by
  rw [Stream.captureRead, empty]
  exact ite_self _

theorem Stream.captureRead_whole {st : Stream} {a : Sample} {rest : List Sample} (whole : st.packing = false)
    (e : st.queue = a :: rest) :
    st.captureRead = (st.width.extend st.signExt a, ({ st with queue := rest }).judged, false) := by
  simp only [Stream.captureRead, whole, e]
  exact if_neg Bool.false_ne_true

theorem Stream.captureRead_one {st : Stream} {a : Sample} (packed : st.packing = true) (e : st.queue = [a]) :
    st.captureRead =
      ((st.width.extendHalf st.signExt a).setWidth 32, ({ st with queue := [], half := true }).judged, false) := by
  simp only [Stream.captureRead, packed, e, if_true]

theorem Stream.captureRead_two {st : Stream} {a b : Sample} {rest : List Sample} (packed : st.packing = true)
    (e : st.queue = a :: b :: rest) :
    st.captureRead = (st.width.extendHalf st.signExt b ++ st.width.extendHalf st.signExt a,
      ({ st with queue := rest, half := false }).judged, false) := by
  simp only [Stream.captureRead, packed, e, if_true]

/-- Settles O26: the read by the stream's state, direction, packing and fill, then the bits of an extended sample. -/
theorem captureReadReturnsHead : Obligations.CaptureReadReturnsHead := by
  refine ⟨fun s n alive => ?_, fun w x i h => ⟨?_, w.extend_true_getLsbD x i h, w.lowBits_getLsbD x i h⟩,
    fun w x i h => ⟨?_, ?_⟩⟩
  · dsimp only
    rw [exec_captureRead_alive alive, ← Reg.offset_dataPort]
    refine ⟨fun off => congrArg _ (State.readPort_disabled off),
      fun on dir => congrArg _ (State.readPort_playback on dir), fun on dir => ?_⟩
    have took {w : Word} {st : Stream} (e : s.su.streams[n].captureRead = (w, st.judged, false)) :
        ∃ t, (.next (s.readPort n) : Result) = .next t ∧ t.readData = w ∧
          t.su.streams[n] = { st with drq := st.drqLevel } ∧ (∀ k : Fin 8, k ≠ n → t.su.streams[k] = s.su.streams[k]) ∧
          t = { s with readData := w, su := { s.su with streams := t.su.streams } } :=
      ⟨(s.setReadData w).setStream n st.judged, congrArg _ (State.readPort_capture on dir e), rfl,
        (s.setReadData w).setStream_at n _, (s.setReadData w).setStream_other n _, rfl⟩
    refine ⟨fun empty => congrArg _ (State.readPort_capture on dir (Stream.captureRead_empty empty)),
      fun a rest whole e => took (Stream.captureRead_whole whole e),
      fun a packed e => took (Stream.captureRead_one packed e),
      fun a b rest packed e => took (Stream.captureRead_two packed e)⟩
  · rw [Width.extend_false, w.lowBits_getLsbD x i h]
  · rw [w.extendHalf_getLsbD _ x i h, Width.extend_false, w.lowBits_getLsbD x i (by omega)]
  · rw [w.extendHalf_getLsbD _ x i h, w.extend_true_getLsbD x i (by omega)]

theorem State.writePort_disabled {s : State} {n : Fin 8} {w : Word} (h : s.su.streams[n].state = .disabled) :
    s.writePort n w = s.accessFault .streamDisabled (Reg.dataPort n).offset :=
  if_pos (Stream.not_enabled_iff.2 h)

theorem State.writePort_capture {s : State} {n : Fin 8} {w : Word} (on : s.su.streams[n].state ≠ .disabled)
    (dir : s.su.streams[n].dir = .capture) :
    s.writePort n w = s.accessFault .wrongDirection (Reg.dataPort n).offset := by
  have on : ¬(s.stream n).enabled = false := fun off => on (Stream.not_enabled_iff.1 off)
  have dir : (s.stream n).dir = .capture := dir
  rw [State.writePort, if_neg on, dir]

/-- A write to an enabled playback port, by what the stream takes of the word (R131). -/
theorem State.writePort_playback {s : State} {n : Fin 8} {w : Word} (on : s.su.streams[n].state ≠ .disabled)
    (dir : s.su.streams[n].dir = .playback) {st : Stream} {spill : Bool}
    (e : s.su.streams[n].playbackWrite w = (st, spill)) :
    s.writePort n w = if spill = true then (s.setStream n st).accessFault .spill (Reg.dataPort n).offset
      else s.setStream n st := by
  have on : ¬(s.stream n).enabled = false := fun off => on (Stream.not_enabled_iff.1 off)
  have dir : (s.stream n).dir = .playback := dir
  have e : (s.stream n).playbackWrite w = (st, spill) := e
  rw [State.writePort, if_neg on, dir, e]

/-- The halves of a word written to a packed port. -/
theorem halves_of_word (w : Word) :
    (w.setWidth 16).setWidth 32 = (w.extractLsb' 0 16).setWidth 32 ∧ w >>> 16 = (w.extractLsb' 16 16).setWidth 32 := by
  refine ⟨by rw [BitVec.setWidth_eq_extractLsb' (v := 32) (by omega)], BitVec.eq_of_toNat_eq ?_⟩
  have bound := w.isLt
  rw [BitVec.toNat_setWidth, BitVec.extractLsb'_toNat, BitVec.toNat_ushiftRight, Nat.shiftRight_eq_div_pow]
  omega

theorem Stream.playbackWrite_whole {st : Stream} {w : Word} (whole : st.packing = false) (room : 1 ≤ st.freeCount) :
    st.playbackWrite w = (({ st with queue := st.queue ++ [st.width.lowBits w] }).judged, false) := by
  simp [Stream.playbackWrite, whole, room]

theorem Stream.playbackWrite_two {st : Stream} {w : Word} (packed : st.packing = true) (room : 2 ≤ st.freeCount) :
    st.playbackWrite w = (({ st with
      queue := st.queue ++ [st.width.lowBits ((w.extractLsb' 0 16).setWidth 32),
        st.width.lowBits ((w.extractLsb' 16 16).setWidth 32)]
      half := false }).judged, false) := by
  obtain ⟨lo, hi⟩ := halves_of_word w
  simp only [Stream.playbackWrite, packed, room, ← lo, ← hi, if_true]

theorem Stream.playbackWrite_one {st : Stream} {w : Word} (packed : st.packing = true) (room : st.freeCount = 1) :
    st.playbackWrite w = (({ st with
      queue := st.queue ++ [st.width.lowBits ((w.extractLsb' 0 16).setWidth 32)], half := true }).judged, true) := by
  obtain ⟨lo, -⟩ := halves_of_word w
  have short : ¬2 ≤ st.freeCount := by omega
  simp only [Stream.playbackWrite, packed, if_neg short, if_pos room, ← lo, if_true]

theorem Stream.playbackWrite_full {st : Stream} {w : Word} (full : st.freeCount = 0) :
    st.playbackWrite w = (st, true) := by
  simp [Stream.playbackWrite, full]

/-- Settles O27: the write by the stream's state, direction, packing and free count. -/
theorem playbackWriteAdds : Obligations.PlaybackWriteAdds := by
  intro s n w alive
  dsimp only
  rw [exec_playbackWrite_alive alive, ← Reg.offset_dataPort]
  refine ⟨fun off => congrArg _ (State.writePort_disabled off),
    fun on dir => congrArg _ (State.writePort_capture on dir), fun on dir => ⟨fun whole room => ?_, fun packed room => ?_,
      fun packed room => ?_, fun full => ?_⟩⟩
  · exact ⟨_, congrArg _ (State.writePort_playback on dir (Stream.playbackWrite_whole whole room)), s.setStream_at n _,
      s.setStream_other n _, rfl⟩
  · exact ⟨_, congrArg _ (State.writePort_playback on dir (Stream.playbackWrite_two packed room)), s.setStream_at n _,
      s.setStream_other n _, rfl⟩
  · exact ⟨_, congrArg _ (State.writePort_playback on dir (Stream.playbackWrite_one packed room)), s.setStream_at n _,
      s.setStream_other n _, rfl⟩
  · exact ⟨_, congrArg _ (State.writePort_playback on dir (Stream.playbackWrite_full full)), s.setStream_at n _,
      s.setStream_other n _, rfl⟩

end Sys2Proof.Machine
end

section
/-! PROOFS. Validation: the sequential pass, the eight checks, and the first refusal (R91 to R95). -/
namespace Sys2Proof.Machine

/-! ### The sequential pass -/

theorem applyChanges_taken {c : Change} {m m' : SlotTable} (e : applyChange m c = some m') (rest : List Change) (i : Nat) :
    applyChanges (c :: rest) i m = applyChanges rest (i + 1) m' := by
  rw [applyChanges, e]

theorem applyChanges_refused {c : Change} {m : SlotTable} (e : applyChange m c = none) (rest : List Change) (i : Nat) :
    applyChanges (c :: rest) i m = .error i := by
  rw [applyChanges, e]

theorem applyChange_add (m : SlotTable) (k : Fin 32) (r : SlotRecord) :
    (m[k] = none → applyChange m (.add k r) = some (upd m k (some r))) ∧
    (m[k] ≠ none → applyChange m (.add k r) = none) := by
  refine ⟨fun free => by rw [applyChange, free], fun used => ?_⟩
  obtain ⟨x, held⟩ := Option.ne_none_iff_exists'.1 used
  rw [applyChange, held]

theorem applyChange_drop (m : SlotTable) (k : Fin 32) :
    (m[k] ≠ none → applyChange m (.drop k) = some (upd m k none)) ∧ (m[k] = none → applyChange m (.drop k) = none) := by
  refine ⟨fun used => ?_, fun free => by rw [applyChange, free]⟩
  obtain ⟨x, held⟩ := Option.ne_none_iff_exists'.1 used
  rw [applyChange, held]

theorem applyChange_move (m : SlotTable) (k : Fin 32) (start : BitVec 11) :
    (∀ r, m[k] = some r → applyChange m (.move k start) = some (upd m k (some { r with start := start }))) ∧
    (m[k] = none → applyChange m (.move k start) = none) := by
  exact ⟨fun r held => by rw [applyChange, held], fun free => by rw [applyChange, free]⟩

/-! ### The eight checks -/

/-- A record of the map at a slot number fails a check. -/
def FailsAt (m : SlotTable) (fails : Fin 32 → SlotRecord → Bool) (k : Fin 32) : Prop :=
  ∃ r, m[k] = some r ∧ fails k r = true

theorem anyRecord_iff {m : SlotTable} {p : Fin 32 → SlotRecord → Bool} :
    anyRecord m p = true ↔ ∃ (j : Fin 32) (r : SlotRecord), m[j] = some r ∧ p j r = true := by
  rw [anyRecord, List.any_eq_true]
  refine exists_congr fun j => ?_
  rw [and_iff_right (mem_slotNumbers j)]
  cases m[j] <;> simp

theorem failsRange_iff {len : Nat} {k : Fin 32} {r : SlotRecord} :
    failsRange len k r = true ↔ len < r.start.toNat + r.width.bits :=
  decide_eq_true_iff

theorem failsOverlap_iff {m : SlotTable} {k : Fin 32} {r : SlotRecord} :
    failsOverlap m k r = true ↔ ∃ (j : Fin 32) (r' : SlotRecord), k < j ∧ m[j] = some r' ∧
      r.start.toNat < r'.start.toNat + r'.width.bits ∧ r'.start.toNat < r.start.toNat + r.width.bits := by
  rw [failsOverlap, anyRecord_iff]
  refine exists₂_congr fun j r' => ?_
  rw [Bool.and_eq_true, SlotRecord.intersects, Bool.and_eq_true, decide_eq_true_iff, decide_eq_true_iff,
    decide_eq_true_iff]
  exact and_left_comm

theorem failsOwner_iff {nd : Directory} {k : Fin 32} {r : SlotRecord} :
    failsOwner nd k r = true ↔ nd[r.owner].state = .free ∨ nd[r.owner].state = .bound ∨ nd[r.owner].state = .lost := by
  unfold failsOwner
  cases nd[r.owner].state <;> simp [EntryState.keepsSlots]

theorem failsCapability_iff {nd : Directory} {k : Fin 32} {r : SlotRecord} :
    failsCapability nd k r = true ↔ ∀ c, nd[r.owner].caps = some c →
      portCount c.a r.dir ≤ r.port.val ∨ c.b.getLsbD r.width.code.toNat = false := by
  unfold failsCapability
  cases nd[r.owner].caps <;> simp

theorem failsPortClash_iff {m : SlotTable} {k : Fin 32} {r : SlotRecord} :
    failsPortClash m k r = true ↔ ∃ (j : Fin 32) (r' : SlotRecord), k < j ∧ m[j] = some r' ∧
      r'.owner = r.owner ∧ r'.dir = r.dir ∧ r'.port = r.port := by
  rw [failsPortClash, anyRecord_iff]
  refine exists₂_congr fun j r' => ?_
  rw [Bool.and_eq_true, decide_eq_true_iff, decide_eq_true_iff]
  exact and_left_comm

theorem failsStreamMismatch_iff {ss : Vector Stream 8} {k : Fin 32} {r : SlotRecord} :
    failsStreamMismatch ss k r = true ↔ r.dir ≠ ss[r.stream].dir ∨ r.width ≠ ss[r.stream].width :=
  decide_eq_true_iff

theorem failsLane_iff {m : SlotTable} {k : Fin 32} {r : SlotRecord} :
    failsLane m k r = true ↔ recordCount m r.stream ≤ r.lane.val ∨
      ∃ (j : Fin 32) (r' : SlotRecord), j < k ∧ m[j] = some r' ∧ r'.stream = r.stream ∧ r'.lane = r.lane := by
  rw [failsLane, Bool.or_eq_true, decide_eq_true_iff, anyRecord_iff]
  refine or_congr_right (exists₂_congr fun j r' => ?_)
  rw [Bool.and_eq_true, decide_eq_true_iff, decide_eq_true_iff]
  exact and_left_comm

theorem failsCapacity_iff {m : SlotTable} {ss : Vector Stream 8} {k : Fin 32} {r : SlotRecord} :
    failsCapacity m ss k r = true ↔ ss[r.stream].state ≠ .disabled ∧ ss[r.stream].capacity < recordCount m r.stream := by
  rw [failsCapacity, Bool.and_eq_true, Stream.enabled_iff, decide_eq_true_iff]

/-! ### The first refusal -/

/-- The first slot number of a table that satisfies `p`. -/
theorem find?_slotNumbers {p : Fin 32 → Bool} {k : Fin 32} (holds : p k = true) (first : ∀ j, j < k → ¬p j = true) :
    slotNumbers.find? p = some k := by
  rw [List.find?_eq_some_iff_getElem]
  refine ⟨holds, k.val, by simp [slotNumbers], by simp [slotNumbers], fun j lt => ?_⟩
  have miss := first ⟨j, by omega⟩ lt
  simpa [slotNumbers] using miss

theorem firstFailing_some {m : SlotTable} {fails : Fin 32 → SlotRecord → Bool} {k : Fin 32} (holds : FailsAt m fails k)
    (first : ∀ j, j < k → ¬FailsAt m fails j) : firstFailing m fails = some k := by
  refine find?_slotNumbers ?_ fun j lt found => first j lt ?_
  · obtain ⟨r, e, bad⟩ := holds
    rw [e]
    exact bad
  · split at found
    next r e => exact ⟨r, e, found⟩
    next => cases found

theorem firstFailing_eq_none {m : SlotTable} {fails : Fin 32 → SlotRecord → Bool} (never : ∀ k, ¬FailsAt m fails k) :
    firstFailing m fails = none := by
  unfold firstFailing
  rw [List.find?_eq_none]
  intro k _ found
  split at found
  next r e => exact never k ⟨r, e, found⟩
  next => cases found

/-- Checks that fail nowhere are passed over. -/
theorem firstRefusal_append {m : SlotTable} {before : List (Reason × (Fin 32 → SlotRecord → Bool))}
    (passed : ∀ x ∈ before, ∀ k, ¬FailsAt m x.2 k) (rest : List (Reason × (Fin 32 → SlotRecord → Bool))) :
    firstRefusal m (before ++ rest) = firstRefusal m rest := by
  induction before with
  | nil => rfl
  | cons x before ih =>
    obtain ⟨reason, fails⟩ := x
    rw [List.cons_append, firstRefusal, firstFailing_eq_none (passed _ List.mem_cons_self)]
    exact ih fun y inner => passed y (List.mem_cons_of_mem _ inner)

theorem firstRefusal_cons {m : SlotTable} {x : Reason × (Fin 32 → SlotRecord → Bool)} {k : Fin 32}
    (holds : FailsAt m x.2 k) (first : ∀ j, j < k → ¬FailsAt m x.2 j)
    (rest : List (Reason × (Fin 32 → SlotRecord → Bool))) : firstRefusal m (x :: rest) = some (x.1, k) := by
  obtain ⟨reason, fails⟩ := x
  rw [firstRefusal, firstFailing_some holds first]

/-! ### The verdict -/

theorem validate_refusedSlotNumber {list : List Change} {active : SlotTable} {i : Nat} (some' : list ≠ [])
    (e : applyChanges list 0 active = .error i) (len : Nat) (nd : Directory) (ss : Vector Stream 8) :
    validate list active len nd ss = .refusedSlotNumber i := by
  cases list with
  | nil => exact absurd rfl some'
  | cons c rest => rw [validate, e]

theorem validate_refusedCheck {list : List Change} {active m : SlotTable} {len : Nat} {nd : Directory}
    {ss : Vector Stream 8} {reason : Reason} {k : Fin 32} (some' : list ≠ []) (e : applyChanges list 0 active = .ok m)
    (refusal : firstRefusal m (finalChecks len nd ss m) = some (reason, k)) :
    validate list active len nd ss = .refusedCheck reason k := by
  cases list with
  | nil => exact absurd rfl some'
  | cons c rest => simp only [validate, e, refusal]

theorem validate_passed {list : List Change} {active m : SlotTable} {len : Nat} {nd : Directory}
    {ss : Vector Stream 8} (some' : list ≠ []) (e : applyChanges list 0 active = .ok m)
    (passed : firstRefusal m (finalChecks len nd ss m) = none) :
    validate list active len nd ss = if m = active then .unchanged else .changed m := by
  cases list with
  | nil => exact absurd rfl some'
  | cons c rest => simp only [validate, e, passed]

/-- A record of a passed map passes each of the eight checks. -/
theorem finalChecks_passed {len : Nat} {nd : Directory} {ss : Vector Stream 8} {m : SlotTable}
    (passed : firstRefusal m (finalChecks len nd ss m) = none) {k : Fin 32} {r : SlotRecord} (e : m[k] = some r) :
    ¬failsRange len k r = true ∧ ¬failsOverlap m k r = true ∧ ¬failsOwner nd k r = true ∧
    ¬failsCapability nd k r = true ∧ ¬failsPortClash m k r = true ∧ ¬failsStreamMismatch ss k r = true ∧
    ¬failsLane m k r = true ∧ ¬failsCapacity m ss k r = true := by
  have pass := firstRefusal_none passed
  simp only [finalChecks, List.forall_mem_cons] at pass
  obtain ⟨range, overlap, owner, capability, clash, mismatch, lane, capacity, -⟩ := pass
  simp only [range k r e, overlap k r e, owner k r e, capability k r e, clash k r e, mismatch k r e, lane k r e,
    capacity k r e, Bool.false_eq_true, not_false_eq_true, and_self]

/-- What the record checks of a passed map say of one record (R92 to R94). -/
theorem record_of_passed {len : Nat} {nd : Directory} {ss : Vector Stream 8} {m : SlotTable}
    (passed : firstRefusal m (finalChecks len nd ss m) = none) {k : Fin 32} {r : SlotRecord} (e : m[k] = some r) :
    r.start.toNat + r.width.bits ≤ len ∧ (nd[r.owner].state = .ready ∨ nd[r.owner].state = .parked) ∧
    (∃ c, nd[r.owner].caps = some c ∧ r.port.val < portCount c.a r.dir ∧ c.b.getLsbD r.width.code.toNat = true) ∧
    r.dir = ss[r.stream].dir ∧ r.width = ss[r.stream].width ∧ r.lane.val < recordCount m r.stream ∧
    (ss[r.stream].enabled = true → recordCount m r.stream ≤ ss[r.stream].capacity) := by
  obtain ⟨range, -, owner, capability, -, mismatch, lane, capacity⟩ := finalChecks_passed passed e
  rw [failsRange_iff] at range
  rw [failsOwner_iff] at owner
  rw [failsCapability_iff] at capability
  rw [failsStreamMismatch_iff] at mismatch
  rw [failsLane_iff] at lane
  rw [failsCapacity_iff] at capacity
  push Not at capability mismatch lane capacity
  obtain ⟨c, held, port, width⟩ := capability
  refine ⟨by omega, ?_, ⟨c, held, port, Bool.eq_true_of_not_eq_false width⟩, mismatch.1, mismatch.2, lane.1,
    fun on => capacity (Stream.enabled_iff.1 on)⟩
  generalize nd[r.owner].state = state at owner ⊢
  cases state <;> simp at owner ⊢

/-- What the pair checks of a passed map say of two records, the lower slot number first (R92 to R94). -/
theorem pair_of_passed {len : Nat} {nd : Directory} {ss : Vector Stream 8} {m : SlotTable}
    (passed : firstRefusal m (finalChecks len nd ss m) = none) {j k : Fin 32} (lt : j < k) {r r' : SlotRecord}
    (e : m[j] = some r) (e' : m[k] = some r') :
    (r.start.toNat + r.width.bits ≤ r'.start.toNat ∨ r'.start.toNat + r'.width.bits ≤ r.start.toNat) ∧
    ¬(r.owner = r'.owner ∧ r.dir = r'.dir ∧ r.port = r'.port) ∧ (r.stream = r'.stream → r.lane ≠ r'.lane) := by
  obtain ⟨-, overlap, -, -, clash, -, -, -⟩ := finalChecks_passed passed e
  obtain ⟨-, -, -, -, -, -, lane, -⟩ := finalChecks_passed passed e'
  rw [failsOverlap_iff] at overlap
  rw [failsPortClash_iff] at clash
  rw [failsLane_iff] at lane
  refine ⟨?_, fun ⟨owner, dir, port⟩ => clash ⟨k, r', lt, e', owner.symm, dir.symm, port.symm⟩,
    fun stream same => lane (.inr ⟨j, r, lt, e, stream, same⟩)⟩
  by_contra meet
  exact overlap ⟨k, r', lt, e', by omega, by omega⟩

/-- Settles O18: a passed map by the checks it passes, the sequential pass by the kind of its record, and the verdict by
the first check that fails. -/
theorem validatedMapPassesEveryCheck : Obligations.ValidatedMapPassesEveryCheck := by
  refine ⟨fun list active len nd ss m changed => ?_, fun i m => rfl, fun c rest i m => ?_,
    fun list active len nd ss => ⟨fun empty => ?_, fun i some' e => validate_refusedSlotNumber some' e len nd ss,
      fun m some' e => ?_⟩⟩
  · obtain ⟨some', -, passed, other⟩ := validate_changed changed
    refine ⟨some', other, fun k r e => record_of_passed passed e, fun j k r r' differ e e' => ?_⟩
    rcases lt_or_gt_of_ne differ with lt | gt
    · exact pair_of_passed passed lt e e'
    · obtain ⟨apart, clash, lane⟩ := pair_of_passed passed gt e' e
      exact ⟨apart.symm, fun ⟨owner, dir, port⟩ => clash ⟨owner.symm, dir.symm, port.symm⟩,
        fun stream same => lane stream.symm same.symm⟩
  · refine ⟨?_, ?_, ?_⟩
    · rintro k r rfl
      obtain ⟨taken, refused⟩ := applyChange_add m k r
      exact ⟨fun free => applyChanges_taken (taken free) rest i, fun used => applyChanges_refused (refused used) rest i⟩
    · rintro k rfl
      obtain ⟨taken, refused⟩ := applyChange_drop m k
      exact ⟨fun used => applyChanges_taken (taken used) rest i, fun free => applyChanges_refused (refused free) rest i⟩
    · rintro k start rfl
      obtain ⟨taken, refused⟩ := applyChange_move m k start
      exact ⟨fun r used => applyChanges_taken (taken r used) rest i,
        fun free => applyChanges_refused (refused free) rest i⟩
  · rw [empty, validate]
  · intro count fails order
    have counts (n : Fin 8) : recordCount m n = count n := recordCount_eq_length m n
    have table : ∀ x ∈ finalChecks len nd ss m, ∀ k, FailsAt m x.2 k ↔ fails x.1 k := by
      simp only [finalChecks, List.forall_mem_cons]
      refine ⟨fun k => exists_congr fun r => and_congr_right fun _ => failsRange_iff,
        fun k => exists_congr fun r => and_congr_right fun _ => failsOverlap_iff,
        fun k => exists_congr fun r => and_congr_right fun _ => failsOwner_iff,
        fun k => exists_congr fun r => and_congr_right fun _ => failsCapability_iff,
        fun k => exists_congr fun r => and_congr_right fun _ => failsPortClash_iff,
        fun k => exists_congr fun r => and_congr_right fun _ => failsStreamMismatch_iff,
        fun k => exists_congr fun r => and_congr_right fun _ => ?_,
        fun k => exists_congr fun r => and_congr_right fun _ => ?_, by nofun⟩
      · exact counts r.stream ▸ failsLane_iff
      · exact counts r.stream ▸ failsCapacity_iff
    refine ⟨fun before after reason k split passed failed first => ?_, fun passed => ?_⟩
    · have named : (finalChecks len nd ss m).map Prod.fst = before ++ reason :: after := split
      obtain ⟨checks, later, whole, rfl, e'⟩ := List.map_eq_append_iff.1 named
      obtain ⟨x, later, rfl, rfl, -⟩ := List.map_eq_cons_iff.1 e'
      have member : ∀ y, y ∈ checks ∨ y = x → y ∈ finalChecks len nd ss m := by
        intro y inner
        rw [whole, List.mem_append, List.mem_cons]
        exact inner.imp_right .inl
      refine validate_refusedCheck some' e ?_
      rw [whole, firstRefusal_append fun y inner j found =>
        passed y.1 (List.mem_map_of_mem inner) j ((table y (member y (.inl inner)) j).1 found)]
      exact firstRefusal_cons ((table x (member x (.inr rfl)) k).2 failed)
        (fun j lt found => first j lt ((table x (member x (.inr rfl)) j).1 found)) later
    · refine validate_passed some' e ?_
      rw [← List.append_nil (finalChecks len nd ss m),
        firstRefusal_append fun y inner j found => passed y.1 j ((table y inner j).1 found)]
      rfl

end Sys2Proof.Machine
end

section
/-! PROOFS. The command field of a frame, its sending and its end, the read-back comparison, and the judgement of a
response (chapters 1 and 3). -/
namespace Sys2Proof.Machine

/-! ### The layout of the command field -/

/-- The bits of a field placed at bit `k` and another below it, as a sum (R10). -/
theorem shifted_or_field {k : Nat} (a : Nat) (x : BitVec k) :
    BitVec.ofNat 28 a <<< k ||| x.setWidth 28 = BitVec.ofNat 28 (a * 2 ^ k + x.toNat) := by
  have shifted : BitVec.ofNat 28 a <<< k = BitVec.ofNat 28 (a <<< k) := by
    refine BitVec.eq_of_toNat_eq ?_
    rw [BitVec.toNat_shiftLeft, BitVec.toNat_ofNat, BitVec.toNat_ofNat, Nat.shiftLeft_eq, Nat.shiftLeft_eq, Nat.mod_mul_mod]
  rw [shifted, ← BitVec.ofNat_toNat, ← BitVec.ofNat_or, ← Nat.shiftLeft_add_eq_or_of_lt x.isLt, Nat.shiftLeft_eq]

/-- Port, direction and width of a slot field above its start (chapter 11.1). -/
theorem slotField_upper (p : Fin 8) (d : Dir) (w : Width) :
    (BitVec.ofNat 28 p.val <<< 15 ||| (BitVec.ofBool d.bit).setWidth 28 <<< 14) ||| w.code.setWidth 28 <<< 11 =
      BitVec.ofNat 28 (p.val * 16 + d.bit.toNat * 8 + w.code.toNat) <<< 11 := by
  cases d <;> cases w <;> revert p <;> decide

theorem slotField_port (p : Fin 8) (d : Dir) :
    BitVec.ofNat 28 p.val <<< 15 ||| (BitVec.ofBool d.bit).setWidth 28 <<< 14 =
      BitVec.ofNat 28 (p.val * 32768 + d.bit.toNat * 16384) := by
  cases d <;> revert p <;> decide

theorem addressBits_setWidth (a : NodeAddr) : (addressBits a).setWidth 28 = BitVec.ofNat 28 (a.val + 1) := by
  revert a
  decide

theorem crc8_concat {k : Nat} (x : BitVec k) (b : Bool) : crc8 (x.concat b) = crcStep (crc8 x) b := by
  have same : (List.range k).foldl (fun c i => crcStep c ((x.concat b).getMsbD i)) 0 = crc8 x := by
    refine List.foldl_ext _ _ _ fun c i inner => ?_
    rw [BitVec.getMsbD_concat, if_pos (List.mem_range.1 inner)]
  rw [crc8, List.range_succ, List.foldl_append, same, List.foldl_cons, List.foldl_nil, BitVec.getMsbD_concat,
    if_neg (Nat.lt_irrefl k), decide_eq_true rfl, Bool.true_and]

theorem LinkCommand.codes (a : NodeAddr) (reg : BitVec 8) (data : BitVec 16) (p : Fin 8) (d : Dir) (w : Width)
    (st : BitVec 11) :
    [LinkCommand.identify, .assign a, .ping, .read reg, .write reg data, .slotSet p d w st, .slotClear p d, .switch,
      .cancel, .park, .resume, .unbind].map LinkCommand.code = [1, 2, 3, 4, 5, 6, 7, 8, 9, 10, 11, 12] :=
  rfl

theorem crc8_empty : crc8 (0#0) = 0 :=
  rfl

/-- The parts of a command field, from its most significant bits (chapter 11.1). -/
theorem fieldBits_parts (t c : BitVec 4) (q : Bool) (p : BitVec 28) :
    (fieldBits t c q p).extractLsb' 44 4 = t ∧ (fieldBits t c q p).extractLsb' 40 4 = c ∧
    (fieldBits t c q p).getLsbD 39 = q ∧ (fieldBits t c q p).extractLsb' 36 3 = 0 ∧
    (fieldBits t c q p).extractLsb' 8 28 = p ∧
    (fieldBits t c q p).extractLsb' 0 8 = crc8 ((fieldBits t c q p).extractLsb' 8 40) := by
  rw [fieldBits]
  generalize crc : crc8 (t ++ c ++ BitVec.ofBool q ++ 0#3 ++ p) = check
  have low (x : BitVec 40) : (x ++ check).extractLsb' 8 40 = x := BitVec.extractLsb'_append_eq_left
  refine ⟨?_, ?_, ?_, ?_, ?_, ?_⟩
  · repeat rw [BitVec.extractLsb'_append_eq_of_le (by omega)]
    exact BitVec.extractLsb'_eq_self
  · repeat rw [BitVec.extractLsb'_append_eq_of_le (by omega)]
    exact BitVec.extractLsb'_append_eq_right
  · simp only [BitVec.getLsbD_append]
    simp
  · repeat rw [BitVec.extractLsb'_append_eq_of_le (by omega)]
    exact BitVec.extractLsb'_append_eq_right
  · rw [BitVec.extractLsb'_append_eq_of_le (by omega)]
    exact BitVec.extractLsb'_append_eq_right
  · rw [low, crc]
    exact BitVec.extractLsb'_append_eq_right

/-- Settles O30: the parts of the field by its concatenation, the parameters as sums, the check by its last bit. -/
theorem commandFieldLayout : Obligations.CommandFieldLayout := by
  refine ⟨fieldBits_parts, fun f t a reg data => ⟨addressBits_setWidth a, ?ping, (BitVec.ofNat_toNat 28 reg).symm,
    ?write, (BitVec.ofNat_toNat 28 t).symm⟩, fun f t p d w st => ⟨?slotSet, slotField_port p d⟩,
    fun f t => ?none, ⟨rfl, rfl, by decide⟩, fun a reg data p d w st => ⟨LinkCommand.codes a reg data p d w st, rfl, rfl,
      rfl⟩, crc8_empty, fun k x b => ?check⟩
  case ping =>
    rw [LinkCommand.param, ← BitVec.ofNat_toNat, BitVec.toNat_setWidth]
  case write =>
    rw [LinkCommand.param, ← BitVec.ofNat_toNat 28 reg, shifted_or_field]
    exact congrArg (BitVec.ofNat 28) (by omega)
  case slotSet =>
    rw [LinkCommand.param, slotField_upper, shifted_or_field]
    exact congrArg (BitVec.ofNat 28) (by omega)
  case none =>
    simp only [List.forall_mem_cons]
    exact ⟨rfl, rfl, rfl, rfl, rfl, by nofun⟩
  case check =>
    rw [crc8_concat, crcStep, BitVec.msb_eq_getLsbD_last]
    rfl

/-! ### The rows that send -/

theorem State.sendingNow_of_inFlight {s : State} {r : InFlight} (e : s.cx.inFlight = some r) :
    s.sendingNow = some r.sending := by
  rw [State.sendingNow, e]
  rfl

theorem State.sendIf_named {s : State} {c : LinkCommand} (now : s.sendingNow = some c) {p : LinkCommand → Bool}
    (named : p c = true) : s.sendIf p = s.placeField := by
  rw [State.sendIf, now]
  exact if_pos named

/-- The first SWITCH copy fixes the switch frame (R103). -/
theorem State.fixSwitchFrame_eq {s : State} {c : LinkCommand} (now : s.sendingNow = some c) :
    s.fixSwitchFrame = s.setCe (if c = .switch ∧ s.ce.switchFrame = none then
      { s.ce with switchFrame := some (s.fe.frameNo + 4) } else s.ce) := by
  unfold State.fixSwitchFrame
  rw [now]
  split
  next e fresh =>
    cases e
    rw [if_pos ⟨rfl, fresh⟩]
    rfl
  next other =>
    rw [if_neg fun ⟨e, fresh⟩ => other (congrArg some e) fresh]
    rfl

/-- A placement writes the command's field (R4). -/
theorem State.placeField_eq {s : State} {r : InFlight} (e : s.cx.inFlight = some r) (before : s.fe.before .placed = true) :
    let ce' : Commit := if r.sending = .switch ∧ s.ce.switchFrame = none then
      { s.ce with switchFrame := some (s.fe.frameNo + 4) } else s.ce
    s.placeField = { s with
      cx := { s.cx with field := some (fieldBits r.target.bits r.sending.code (s.seqBit r.target)
        (r.sending.param s.fe.frameNo (ce'.switchFrame.getD 0))) }
      fe := { s.fe with pos := .placed }
      ce := ce' } := by
  intro ce'
  have placed : s.placeField = s.fixSwitchFrame.writeField := if_pos before
  rw [placed, State.fixSwitchFrame_eq (State.sendingNow_of_inFlight e), State.writeField, State.outgoingField,
    State.setCe_cx, e]
  rfl

/-- Settles O29: the row named by the kind of what is sent, and the placement it makes. -/
theorem sendingPlacesTheField : Obligations.SendingPlacesTheField := by
  refine ⟨fun s r e before => ?_, fun r => ⟨fun ping => ?_, fun command => ?_⟩, fun s => ⟨fun a => rfl, rfl, rfl⟩⟩
  · intro ce' row
    have now := State.sendingNow_of_inFlight e
    have placed : exec row s = .next s.placeField := by
      dsimp only [row]
      cases kind : r.sending <;> exact congrArg _ (State.sendIf_named (kind ▸ now) rfl)
    rw [placed]
    exact congrArg _ (State.placeField_eq e before)
  · rw [InFlight.sending, ping]
  · rw [InFlight.sending, command]

/-! ### The end of the command field -/

theorem FrameEngine.before_iff {fe : FrameEngine} {p : FramePos} (running : fe.running = true) :
    fe.before p = true ↔ fe.pos.rank < p.rank := by
  rw [FrameEngine.before, running, Bool.true_and, decide_eq_true_iff]

theorem State.fieldSent_placed {s : State} (running : s.fe.running = true) (placed : s.fe.pos = .placed) :
    s.fieldSent = s.concludeBroadcast.setFe { s.concludeBroadcast.fe with pos := .sent } := by
  have before : s.fe.before .sent = true := by
    rw [FrameEngine.before_iff running, placed]
    decide
  have once : ¬s.fe.before .placed = true := by
    rw [FrameEngine.before_iff running, placed]
    decide
  rw [State.fieldSent, if_pos before, State.placeField, if_neg once]

theorem State.concludeBroadcast_addressed {s : State} {r : InFlight} (e : s.cx.inFlight = some r)
    (addressed : r.target ≠ .broadcast) : s.concludeBroadcast = s := by
  cases target : r.target with
  | broadcast => exact absurd target addressed
  | unbound => simp only [State.concludeBroadcast, e, target]
  | node a => simp only [State.concludeBroadcast, e, target]

theorem State.concludeBroadcast_broadcast {s : State} {r : InFlight} (e : s.cx.inFlight = some r)
    (broadcast : r.target = .broadcast) :
    s.concludeBroadcast = (s.setCx { s.cx with inFlight := none }).countCopy := by
  rw [State.concludeBroadcast, e]
  simp only [broadcast]

theorem State.countCopy_counted {s : State}
    (more : ¬(s.ce.phase = .cancelling ∧ Config.broadcastCopies ≤ s.ce.copies + 1)) :
    s.countCopy = s.setCe { s.ce with copies := s.ce.copies + 1 } :=
  if_neg more

theorem State.countCopy_last {s : State}
    (last : s.ce.phase = .cancelling ∧ Config.broadcastCopies ≤ s.ce.copies + 1) :
    s.countCopy = (s.setCe { s.ce with phase := .idle, copies := 0 }).raise .commitDone :=
  if_pos last

/-- With no command in progress the field carries IDLE (R4). -/
theorem State.fieldSent_idle {s : State} (running : s.fe.running = true) (e : s.cx.inFlight = none)
    (early : s.fe.pos = .started ∨ s.fe.pos = .compared) :
    s.fieldSent = { s with fe := { s.fe with pos := .sent }, cx := { s.cx with field := some (fieldBits 15 0 false 0) } } := by
  have rank : s.fe.pos.rank ≤ 1 := by rcases early with early | early <;> rw [early] <;> decide
  have before : s.fe.before .sent = true := (FrameEngine.before_iff running).2 (Nat.lt_of_le_of_lt rank (by decide))
  have unplaced : s.fe.before .placed = true := (FrameEngine.before_iff running).2 (Nat.lt_of_le_of_lt rank (by decide))
  have none : s.sendingNow = none := by
    rw [State.sendingNow, e]
    rfl
  have unfixed : s.fixSwitchFrame = s := by
    unfold State.fixSwitchFrame
    rw [none]
  have placed : s.placeField =
      { s with cx := { s.cx with field := some (fieldBits 15 0 false 0) }, fe := { s.fe with pos := .placed } } := by
    rw [State.placeField, if_pos unplaced, unfixed, State.writeField, State.outgoingField, e]
    rfl
  rw [State.fieldSent, if_pos before, placed, State.concludeBroadcast]
  simp only [e]
  rfl

/-- Settles O31: the end of the field by the command in progress, its target and the copies sent. -/
theorem commandFieldEnds : Obligations.CommandFieldEnds := by
  intro s running
  refine ⟨fun r e addressed placed => ?_, fun e early => congrArg _ (State.fieldSent_idle running e early),
    fun r e broadcast placed more => ?_, fun r e broadcast cancel placed cancelling copies => ?_⟩
  · change Host.Outcome.next s.fieldSent = _
    rw [State.fieldSent_placed running placed, State.concludeBroadcast_addressed e addressed]
    rfl
  · have more : ¬(s.ce.phase = .cancelling ∧ Config.broadcastCopies ≤ s.ce.copies + 1) :=
      fun ⟨cancelling, last⟩ => more ⟨cancelling, Nat.le_of_succ_le_succ last⟩
    change Host.Outcome.next s.fieldSent = _
    rw [State.fieldSent_placed running placed, State.concludeBroadcast_broadcast e broadcast, State.countCopy_counted]
    · rfl
    · exact more
  · intro ended
    have last : s.ce.phase = .cancelling ∧ Config.broadcastCopies ≤ s.ce.copies + 1 :=
      ⟨cancelling, Nat.succ_le_succ copies⟩
    have sent : s.fieldSent = ended := by
      rw [State.fieldSent_placed running placed, State.concludeBroadcast_broadcast e broadcast, State.countCopy_last]
      · rfl
      · exact last
    have third : s.sendsLastCancel = true := by
      rw [State.sendsLastCancel, State.sendingNow_of_inFlight e, cancel, decide_eq_true last.1, decide_eq_true last.2]
      rfl
    exact ⟨congrArg Host.Outcome.next sent, congrArg Host.Outcome.next ((if_pos third).trans sent)⟩

/-! ### The read-back comparison -/

/-- Settles O40: a clean frame and a contention frame short of the third. -/
theorem readbackJudged : Obligations.ReadbackJudged := by
  intro s line before
  have judged : exec (.readbackComparison line) s =
      .next (if line = frameHead s.fe.frameNo then s.cleanFrame else s.contention) :=
    congrArg _ (if_pos before)
  refine ⟨fun clean => ?_, fun other short => ⟨satInc s.fe.contentionCount, satInc_toNat _, ?_⟩⟩
  · rw [judged]
    exact congrArg _ (if_pos clean)
  · have short : ¬Config.contentionLimit ≤ s.fe.contentionRun + 1 := Nat.not_le.2 (Nat.succ_lt_succ short)
    have run : s.contention = s.setFe { s.fe with
        contentionCount := satInc s.fe.contentionCount, contentionRun := s.fe.contentionRun + 1, pos := .compared } :=
      if_neg short
    have wrong : ¬line = frameHead s.fe.frameNo := other
    rw [judged, if_neg wrong, run]
    rfl

/-! ### The judgement of a response -/

theorem judge_noAnswer (who : BitVec 4) (echo : Option (BitVec 8)) :
    judge who echo (BitVec.allOnes 32) = .noAnswer :=
  if_pos rfl

/-- A field with a wrong check, status 3 or a wrong responder (R7). -/
theorem judge_garbled {who : BitVec 4} {echo : Option (BitVec 8)} {f : BitVec 32} (some' : f ≠ BitVec.allOnes 32)
    (bad : ¬(checkHolds f = true ∧ statusOf f ≠ 3 ∧ responderOf f = who)) : judge who echo f = .garbled := by
  refine (if_neg some').trans ?_
  by_cases check : checkHolds f = false
  · exact if_pos check
  refine (if_neg check).trans ?_
  by_cases status : statusOf f = 3
  · exact if_pos status
  refine (if_neg status).trans (if_pos fun responder => ?_)
  exact bad ⟨Bool.eq_true_of_not_eq_false check, status, responder⟩

/-- A field with every part in order is judged by its status (R7). -/
theorem judge_good {who : BitVec 4} {echo : Option (BitVec 8)} {f : BitVec 32} (some' : f ≠ BitVec.allOnes 32)
    (check : checkHolds f = true) (status : statusOf f ≠ 3) (responder : responderOf f = who) :
    (statusOf f = 1 → judge who echo f = .wait) ∧ (statusOf f = 2 → judge who echo f = .refuse (dataOf f)) ∧
    (statusOf f = 0 → echo = none → judge who echo f = .ack (dataOf f)) ∧
    (∀ p, statusOf f = 0 → echo = some p →
      judge who echo f = if (dataOf f).setWidth 8 = p then .ack (dataOf f) else .garbled) := by
  have check' : ¬checkHolds f = false := by
    rw [check]
    decide
  have responder' : ¬responderOf f ≠ who := not_not_intro responder
  refine ⟨fun wait => ?_, fun refuse => ?_, fun ack none => ?_, fun p ack echoes => ?_⟩ <;>
    rw [judge.eq_def, if_neg some', if_neg check', if_neg status, if_neg responder']
  · rw [if_pos wait]
  · rw [if_neg (by rw [refuse]; decide), if_pos refuse]
  · rw [if_neg (by rw [ack]; decide), if_neg (by rw [ack]; decide), none]
  · rw [if_neg (by rw [ack]; decide), if_neg (by rw [ack]; decide), echoes]

theorem dataOf_low (f : BitVec 32) : (dataOf f).setWidth 8 = f.extractLsb' 8 8 := by
  refine BitVec.eq_of_getLsbD_eq fun i hi => ?_
  have low : i < 16 := by omega
  simp only [dataOf, BitVec.getLsbD_setWidth, BitVec.getLsbD_extractLsb', hi, low, decide_true, Bool.true_and]

theorem checkHolds_iff (f : BitVec 32) : checkHolds f = true ↔ crc8 (f.extractLsb' 8 24) = f.extractLsb' 0 8 :=
  decide_eq_true_iff

/-- Settles O44: the cases of R7 in order, then what a command expects of its response. -/
theorem responseJudged : Obligations.ResponseJudged := by
  refine ⟨fun who echo f => ?_, fun s r a f target => ⟨fun ping => ?_, fun stage other noAssign => ?_⟩,
    fun s r b f stage assign => ?_⟩
  · refine ⟨fun none => none ▸ judge_noAnswer who echo, fun some' bad => judge_garbled some' fun ⟨check, rest⟩ => ?_,
      fun ⟨some', check, status, responder⟩ =>
        (judge_good some' ((checkHolds_iff f).2 check) status responder).1,
      fun ⟨some', check, status, responder⟩ =>
        (judge_good some' ((checkHolds_iff f).2 check) status responder).2.1,
      fun ⟨some', check, status, responder⟩ =>
        (judge_good some' ((checkHolds_iff f).2 check) status responder).2.2.1,
      fun p ⟨some', check, status, responder⟩ => ?_⟩
    · exact bad ⟨some', (checkHolds_iff f).1 check, rest⟩
    · rw [← dataOf_low]
      exact (judge_good some' ((checkHolds_iff f).2 check) status responder).2.2.2 p
  · have sends : r.sending = .ping := by
      rw [InFlight.sending]
      cases stage : r.stage with
      | resyncPing => rfl
      | command => exact ping.resolve_left (by rw [stage]; nofun)
    rw [State.judgeFor, InFlight.responder, InFlight.echo, sends, if_pos rfl, target, BitVec.setWidth_eq_extractLsb' (by omega)]
    rfl
  · have sends : r.sending = r.cmd := by rw [InFlight.sending, stage]
    have responder : r.responder = BitVec.ofNat 4 (a.val + 1) := by
      rw [InFlight.responder, sends]
      split
      next b e => exact absurd e (noAssign b)
      next => rw [target]; rfl
    rw [State.judgeFor, responder, InFlight.echo, sends, if_neg other]
  · have sends : r.sending = .assign b := by rw [InFlight.sending, stage, assign]
    rw [State.judgeFor, InFlight.responder, InFlight.echo, sends, if_neg (by nofun)]
    rfl

end Sys2Proof.Machine
end

section
/-! PROOFS. The frame start: sync frames, the formation of the map, the switch, the live sets and the playback streams
(chapters 2.3, 5.2, 6.5 and 7.5 to 7.7). -/
namespace Sys2Proof.Machine

/-! ### What a frame start offers the arbiter -/

/-- The state a frame start of UP or DRAINING offers the arbiter: the next frame, its map formed, its payload served. -/
def State.served (s : State) : State :=
  if s.nextFrame.formMap.fe.servesPayload = true then s.nextFrame.formMap.startStreams else s.nextFrame.formMap

theorem exec_frameStart_working {s : State} (h : s.fe.link = .up ∨ s.fe.link = .draining) :
    exec .frameStart s = .next s.served.settleField := by
  have started : s.startFrame = s.served.settleField := by
    have same : s.nextFrame.fe.link = s.fe.link := rfl
    unfold State.startFrame
    rcases h with h | h <;> simp only [same, h] <;> rfl
  have running : s.fe.running = true := by
    unfold FrameEngine.running
    rcases h with h | h <;> rw [h]
  exact congrArg Host.Outcome.next ((if_pos running).trans started)

@[simp] theorem State.served_fe (s : State) : s.served.fe = { s.fe with frameNo := s.fe.frameNo + 1, pos := .started } := by
  unfold State.served
  split <;> simp [State.nextFrame]
@[simp] theorem State.served_cx (s : State) : s.served.cx = { s.cx with field := none } := by
  unfold State.served
  split <;> simp [State.nextFrame]
@[simp] theorem State.served_nd (s : State) : s.served.nd = s.nd := by
  unfold State.served
  split <;> simp
@[simp] theorem State.served_sv (s : State) : s.served.sv = s.sv := by
  unfold State.served
  split <;> simp
@[simp] theorem State.served_sm (s : State) : s.served.sm = s.nextFrame.formedSlotMap := by
  unfold State.served
  split <;> simp [State.formMap_sm]
@[simp] theorem State.served_cl (s : State) : s.served.cl = s.nextFrame.formMap.cl := by
  unfold State.served
  split <;> simp
@[simp] theorem State.served_ce (s : State) : s.served.ce = s.nextFrame.formMap.ce := by
  unfold State.served
  split <;> simp
@[simp] theorem State.served_rq (s : State) : s.served.rq = s.rq := by
  unfold State.served
  split <;> simp

/-! ### Notes kept over a frame start -/

theorem notesKept_commitDone {a b : EventUnit} (h : b = a ∨ b = { a with sticky := a.sticky ||| 0x080 }) :
    NotesKept a b := by
  rcases h with rfl | rfl
  · exact .refl _
  · exact ⟨fun _ held => held, fun i held => by rw [BitVec.getLsbD_or, held, Bool.true_or], fun _ held => held⟩

theorem State.notesKept_settleField (s : State) : NotesKept s.eu s.settleField.eu :=
  notesKept_commitDone s.settleField_eu

theorem State.notesKept_formMap (s : State) : NotesKept s.eu s.formMap.eu :=
  notesKept_commitDone s.formMap_eu

theorem State.notesKept_workFrame (s : State) : NotesKept s.eu s.workFrame.eu := by
  refine s.notesKept_formMap.trans ?_
  unfold State.workFrame
  dsimp only
  split
  · exact (State.startStreams_notesKept _).trans (State.notesKept_settleField _)
  · exact State.notesKept_settleField _

/-- What COMMIT_DONE leaves of the gap list and GAP_OVERFLOW. -/
theorem gaps_of_commitDone {a b : EventUnit} (h : b = a ∨ b = { a with sticky := a.sticky ||| 0x080 }) :
    b.gaps = a.gaps ∧ b.sticky.getLsbD 10 = a.sticky.getLsbD 10 ∧ b.xrun = a.xrun := by
  rcases h with rfl | rfl
  · exact ⟨rfl, rfl, rfl⟩
  · exact ⟨rfl, by simp, rfl⟩

/-! ### Sync frames -/

/-- Settles O32: short of the sixteenth sync frame only the counts move; the sixteenth raises LINK_UP. -/
theorem syncFramesCounted : Obligations.SyncFramesCounted := by
  intro s syncing
  have running : s.fe.running = true := by rw [FrameEngine.running, syncing]
  have begun : exec .frameStart s = .next s.startFrame := congrArg Host.Outcome.next (if_pos running)
  have same : s.nextFrame.fe.link = .syncing := syncing
  refine ⟨fun early => ?_, fun last => ⟨s.startFrame, ?_, begun, ?_, ?_⟩⟩
  · have early : ¬Config.syncFrames ≤ s.nextFrame.fe.syncCount + 1 := Nat.not_le.2 (Nat.succ_lt_succ early)
    have still : s.nextFrame.countSync = s.nextFrame.setFe { s.nextFrame.fe with syncCount := s.fe.syncCount + 1 } :=
      if_neg early
    have notUp : ¬s.nextFrame.countSync.fe.link = .up := by
      rw [still]
      exact fun up => nomatch syncing.symm.trans up
    rw [begun, State.startFrame]
    simp only [same]
    rw [if_neg notUp, still]
    rfl
  all_goals
    have last : Config.syncFrames ≤ s.nextFrame.fe.syncCount + 1 := Nat.succ_le_succ last
    have up : s.nextFrame.countSync =
        ((s.nextFrame.setFe { s.nextFrame.fe with syncCount := s.fe.syncCount + 1 }).setLink .up).raise .linkUp :=
      if_pos last
    have worked : s.startFrame = s.nextFrame.countSync.workFrame := by
      rw [State.startFrame]
      simp only [same]
      rw [if_pos]
      rw [up]
      rfl
  · exact congrArg Host.Outcome.next (if_pos ⟨syncing, last⟩)
  · rw [worked, State.workFrame_fe, up]
    rfl
  · rw [worked]
    refine (State.notesKept_workFrame _).sticky 0 ?_
    rw [up, State.raise_sticky _ _ (by omega)]
    exact Bool.or_true _

/-! ### Formation -/

theorem EntryState.keepsSlots_iff {st : EntryState} : st.keepsSlots = true ↔ st = .ready ∨ st = .parked := by
  cases st <;> simp [EntryState.keepsSlots]

/-- The record a formation leaves at a slot number (R80, R81). -/
theorem revoke_get (m : SlotTable) (nd : Directory) (k : Fin 32) :
    (revoke m nd)[k] = match m[k] with
      | some r => if nd[r.owner].state = .ready ∨ nd[r.owner].state = .parked then some r else none
      | none => none := by
  rw [revoke, mapTable_get]
  cases m[k] with
  | none => rfl
  | some r => simp only [EntryState.keepsSlots_iff]

theorem State.nextFrame_switchDue_iff (s : State) :
    s.nextFrame.switchDue = true ↔ s.ce.phase = .switching ∧ s.ce.switchFrame = some (s.fe.frameNo + 1) := by
  rw [State.switchDue, Bool.and_eq_true, decide_eq_true_iff, decide_eq_true_iff]
  rfl

/-- The map a frame start begins from: the pending map at the switch frame, else the active map (R80). -/
theorem State.switchedMap_of_base {s : State} {base : SlotTable}
    (h : if s.ce.phase = .switching ∧ s.ce.switchFrame = some (s.fe.frameNo + 1) then s.ce.pending = some base
      else base = s.sm.active) : s.nextFrame.switchedMap = base := by
  unfold State.switchedMap
  split at h
  next due =>
    rw [if_pos (s.nextFrame_switchDue_iff.2 due)]
    exact congrArg (Option.getD · s.sm.active) h
  next due =>
    rw [if_neg fun d => due (s.nextFrame_switchDue_iff.1 d), h]
    rfl

/-- Settles O33: the formed map slot by slot, and its generation. -/
theorem frameStartFormsMap : Obligations.FrameStartFormsMap := by
  intro s working
  refine ⟨_, exec_frameStart_working working, ?_, fun base given k => ?_, fun same => ?_, fun differs => ?_⟩
  · rw [State.settleField_fe, State.served_fe]
  · rw [State.settleField_sm, State.served_sm]
    change (revoke s.nextFrame.switchedMap s.nd)[k] = _
    rw [State.switchedMap_of_base given]
    exact revoke_get base s.nd k
  all_goals rw [State.settleField_sm, State.served_sm] at *
  · exact if_pos same
  · exact if_neg differs

/-! ### The switch -/

theorem State.formMap_due {s : State} (due : s.switchDue = true) : s.formMap = (s.setSm s.formedSlotMap).completeSwitch :=
  if_pos due

/-- Of the arbiter's sources only the Commit Engine changes its own fields, the change list and the events. -/
theorem State.settleField_commitPart (s : State) :
    s.settleField.ce = (s.offerTo State.offerCommit).ce ∧ s.settleField.cl = (s.offerTo State.offerCommit).cl ∧
    s.settleField.eu = (s.offerTo State.offerCommit).eu := by
  unfold State.settleField
  generalize s.offerTo State.offerCommit = t
  unfold State.offerTo
  (repeat' split) <;> simp

theorem State.offerTo_offerCommit_idle {s : State} (idle : s.ce.phase = .idle) : s.offerTo State.offerCommit = s := by
  rw [State.offerTo, State.offerCommit_idle idle, ite_self]

/-- With no commit active the arbiter leaves the Commit Engine and the change list. -/
theorem State.settleField_ce_idle {s : State} (idle : s.ce.phase = .idle) : s.settleField.ce = s.ce := by
  rw [s.settleField_commitPart.1, State.offerTo_offerCommit_idle idle]

theorem State.settleField_cl_idle {s : State} (idle : s.ce.phase = .idle) : s.settleField.cl = s.cl := by
  rw [s.settleField_commitPart.2.1, State.offerTo_offerCommit_idle idle]

/-- Settles O34: the switch frame's formation completes the commit, and the arbiter finds it IDLE. -/
theorem switchInstalled : Obligations.SwitchInstalled := by
  intro s m working switching frame pending
  have due : s.nextFrame.switchDue = true := s.nextFrame_switchDue_iff.2 ⟨switching, frame⟩
  have formed := State.formMap_due due
  have begun := exec_frameStart_working working
  have row : exec .switchInstall s = exec .frameStart s := by
    have running : s.fe.running = true := by
      unfold FrameEngine.running
      rcases working with h | h <;> rw [h]
    exact congrArg Host.Outcome.next ((if_pos ⟨working, switching, frame⟩).trans (if_pos running).symm)
  have idle : s.served.ce.phase = .idle := by
    rw [State.served_ce, formed]
    rfl
  refine ⟨s.served.settleField, row.trans begun, begun, ?_, fun k => ?_, ?_, ?_, ?_, ?_, ?_⟩
  · rw [State.settleField_cl_idle idle, State.served_cl, formed]
    rfl
  · rw [State.settleField_sm, State.served_sm]
    change (revoke s.nextFrame.switchedMap s.nd)[k] = _
    rw [State.switchedMap_of_base (base := m) (by rw [if_pos ⟨switching, frame⟩, pending])]
    exact revoke_get m s.nd k
  · rw [State.settleField_ce_idle idle, idle]
  · rw [State.settleField_ce_idle idle, State.served_ce, formed]
    rfl
  · rw [State.settleField_ce_idle idle, State.served_ce, formed]
    rfl
  · rw [State.settleField_ce_idle idle, State.served_ce, formed, State.settleField_sm, State.served_sm]
    rfl
  · refine (State.notesKept_settleField _).sticky 7 ?_
    have raised : s.nextFrame.formMap.eu.sticky.getLsbD 7 = true := by
      rw [formed, State.completeSwitch, State.raise_sticky _ _ (by omega)]
      exact Bool.or_true _
    unfold State.served
    split
    · exact (State.startStreams_notesKept _).sticky 7 raised
    · exact raised

/-! ### The streams of a frame start -/

theorem FrameEngine.servesPayload_iff {fe : FrameEngine} :
    fe.servesPayload = true ↔ fe.link = .up ∨ (fe.link = .draining ∧ fe.drainFromSync = false) := by
  unfold FrameEngine.servesPayload
  cases fe.link <;> simp

theorem State.served_serving {s : State} (serves : s.fe.link = .up ∨ (s.fe.link = .draining ∧ s.fe.drainFromSync = false)) :
    s.served = s.nextFrame.formMap.startStreams := by
  refine if_pos ?_
  rw [State.formMap_fe]
  exact FrameEngine.servesPayload_iff.2 serves

/-- The move a stream makes at the frame start that follows `s`. -/
def State.startMove (s : State) (n : Fin 8) : StreamMove :=
  frameStartMove (s.fe.frameNo + 1) s.nextFrame.formedMap s.nd n s.su.streams[n]

theorem State.formMap_startMove (s : State) (n : Fin 8) :
    frameStartMove s.nextFrame.formMap.fe.frameNo s.nextFrame.formMap.sm.active s.nextFrame.formMap.nd n
      s.nextFrame.formMap.su.streams[n] = s.startMove n := by
  rw [State.formMap_fe, State.formMap_sm, State.formMap_nd, State.formMap_su]
  rfl

theorem State.frameStart_stream {s : State}
    (serves : s.fe.link = .up ∨ (s.fe.link = .draining ∧ s.fe.drainFromSync = false)) (n : Fin 8) :
    s.served.settleField.su.streams[n] = (s.startMove n).stream := by
  rw [State.settleField_su, State.served_serving serves, State.startStreams_stream, State.formMap_startMove]

theorem State.frameStart_active (s : State) : s.served.settleField.sm.active = s.nextFrame.formedMap := by
  rw [State.settleField_sm, State.served_sm]
  rfl

/-- The stream with its live set fixed for a frame (R120). -/
def Stream.withLive (st : Stream) (live : List (Fin 32)) : Stream := { st with live := live, sinceStart := true }

/-- The LANES_CHANGED record of a live set that differs (R120). -/
def lanesChanged (f : FrameNo) (n : Fin 8) (st : Stream) (live : List (Fin 32)) : List GapRecord :=
  if live = st.live then []
  else [{ stream := n, kind := .lanesChanged, frame := f, index := st.counter, lanes := some live.length }]

theorem frameStartMove_disabled {st : Stream} (off : st.state = .disabled) (f : FrameNo) (m : SlotTable) (nd : Directory)
    (n : Fin 8) : frameStartMove f m nd n st = .still st := by
  have fixed : fixLive f m nd n st = .still st := if_neg fun on => Stream.enabled_iff.1 on off
  have released : st.frameRelease f m n = .still st := by
    unfold Stream.frameRelease
    rw [off]
    split <;> rfl
  unfold frameStartMove
  rw [fixed]
  change { st.frameRelease f m n with gaps := [] ++ (st.frameRelease f m n).gaps } = _
  rw [released]
  rfl

theorem frameStartMove_enabled {st : Stream} (on : st.state ≠ .disabled) (f : FrameNo) (m : SlotTable) (nd : Directory)
    (n : Fin 8) :
    frameStartMove f m nd n st =
      { (st.withLive (liveSlots m nd n)).frameRelease f m n with
        gaps := lanesChanged f n st (liveSlots m nd n) ++ ((st.withLive (liveSlots m nd n)).frameRelease f m n).gaps } := by
  have fixed : fixLive f m nd n st = { stream := st.withLive (liveSlots m nd n)
                                       gaps := lanesChanged f n st (liveSlots m nd n), xrun := false, drives := [] } :=
    if_pos (Stream.enabled_iff.2 on)
  unfold frameStartMove
  rw [fixed]

/-- A release moves the queue and leaves the live set. -/
theorem Stream.frameRelease_live (st : Stream) (f : FrameNo) (m : SlotTable) (n : Fin 8) :
    (st.frameRelease f m n).stream.live = st.live := by
  unfold Stream.frameRelease Stream.primingStart Stream.runningStart
  (repeat' split) <;> rfl

/-- Settles O35: the live set by the move of the stream, its record by the list of records made. -/
theorem liveSetsFixed : Obligations.LiveSetsFixed := by
  intro s serves
  have working : s.fe.link = .up ∨ s.fe.link = .draining := serves.imp_right And.left
  refine ⟨_, exec_frameStart_working working, fun n => ?_⟩
  rw [State.frameStart_stream serves n, State.startMove]
  refine ⟨fun off => ?_, fun on => ?_⟩
  · rw [frameStartMove_disabled off]
    rfl
  have move := frameStartMove_enabled on (s.fe.frameNo + 1) s.nextFrame.formedMap s.nd n
  have live : (frameStartMove (s.fe.frameNo + 1) s.nextFrame.formedMap s.nd n s.su.streams[n]).stream.live =
      liveSlots s.nextFrame.formedMap s.nd n := by
    rw [move]
    exact Stream.frameRelease_live _ _ _ _
  rw [live]
  refine ⟨?_, fun differs => ?_⟩
  · rw [State.frameStart_active]
    rfl
  · have made : ({ stream := n, kind := .lanesChanged, frame := s.fe.frameNo + 1, index := s.su.streams[n].counter
                   lanes := some (liveSlots s.nextFrame.formedMap s.nd n).length } : GapRecord) ∈ (s.startMove n).gaps := by
      rw [State.startMove, move, lanesChanged, if_neg differs]
      exact List.mem_append_left _ (List.mem_singleton_self _)
    rw [← State.formMap_startMove] at made
    have notes := State.notesKept_settleField s.served
    rw [State.served_serving serves] at notes ⊢
    exact (State.startStreams_gap _ n _ made).imp (notes.gaps _) (notes.sticky 10)

end Sys2Proof.Machine
end

section
/-! PROOFS. The playback streams of a frame start, the records and the slots they give the frame, and the line (chapters
1, 7.7 and 7.9). -/
namespace Sys2Proof.Machine

/-! ### Hold values after a release -/

/-- Places set one after another: a place none of them names stands. -/
theorem foldl_upd_other {l : Fin 8} (zs : List ((Fin 32 × SlotRecord) × Sample)) (hold : Vector Sample 8)
    (other : ∀ z ∈ zs, z.1.2.lane ≠ l) : (zs.foldl (fun h p => upd h p.1.2.lane p.2) hold)[l] = hold[l] := by
  induction zs generalizing hold with
  | nil => rfl
  | cons z zs ih =>
    rw [List.foldl_cons, ih _ fun y inner => other y (List.mem_cons_of_mem _ inner)]
    exact upd_ne hold (other z List.mem_cons_self) _

/-- A place named once holds the value given there. -/
theorem foldl_upd_named (zs : List ((Fin 32 × SlotRecord) × Sample)) (hold : Vector Sample 8) {i : Nat}
    {z : (Fin 32 × SlotRecord) × Sample} (e : zs[i]? = some z)
    (once : ∀ (j : Nat) (y : (Fin 32 × SlotRecord) × Sample), zs[j]? = some y → y.1.2.lane = z.1.2.lane → j = i) :
    (zs.foldl (fun h p => upd h p.1.2.lane p.2) hold)[z.1.2.lane] = z.2 := by
  induction zs generalizing hold i with
  | nil => simp at e
  | cons y zs ih =>
    rw [List.foldl_cons]
    cases i with
    | zero =>
      obtain rfl : y = z := Option.some.inj e
      rw [foldl_upd_other zs _ fun x inner => ?_]
      · exact upd_self _ _ _
      · obtain ⟨j, ej⟩ := List.mem_iff_getElem?.1 inner
        exact fun same => nomatch once (j + 1) x ej same
    | succ i =>
      exact ih _ e fun j x ex same => Nat.succ.inj (once (j + 1) x ex same)

theorem heldAfter_other {g : List (Fin 32 × SlotRecord)} {l : Fin 8} (other : ∀ p ∈ g, p.2.lane ≠ l)
    (hold : Vector Sample 8) (samples : List Sample) : (heldAfter hold g samples)[l] = hold[l] :=
  foldl_upd_other _ hold fun z inner => other z.1 (List.of_mem_zip inner).1

theorem heldAfter_named {g : List (Fin 32 × SlotRecord)} {samples : List Sample} {i : Nat} {p : Fin 32 × SlotRecord}
    {x : Sample} (ep : g[i]? = some p) (ex : samples[i]? = some x)
    (once : ∀ (j : Nat) (q : Fin 32 × SlotRecord), g[j]? = some q → q.2.lane = p.2.lane → j = i)
    (hold : Vector Sample 8) : (heldAfter hold g samples)[p.2.lane] = x := by
  refine foldl_upd_named (z := (p, x)) _ hold ?_ fun j y e same => once j y.1 ?_ same
  · exact List.getElem?_zip_eq_some.2 ⟨ep, ex⟩
  · exact (List.getElem?_zip_eq_some.1 e).1

/-! ### A playback stream's release -/

theorem Stream.frameRelease_running {st : Stream} (dir : st.dir = .playback) (running : st.state = .running) (f : FrameNo)
    (m : SlotTable) (n : Fin 8) : st.frameRelease f m n = st.runningStart f n (groupOf m st.live) := by
  rw [Stream.frameRelease, dir, running]

theorem Stream.frameRelease_priming {st : Stream} (dir : st.dir = .playback) (priming : st.state = .priming) (f : FrameNo)
    (m : SlotTable) (n : Fin 8) : st.frameRelease f m n = st.primingStart (groupOf m st.live) := by
  rw [Stream.frameRelease, dir, priming]

theorem Stream.frameRelease_capture {st : Stream} (dir : st.dir = .capture) (f : FrameNo) (m : SlotTable) (n : Fin 8) :
    st.frameRelease f m n = .still st := by
  rw [Stream.frameRelease, dir]

theorem Stream.runningStart_none {st : Stream} {g : List (Fin 32 × SlotRecord)} (none : g.length = 0) (f : FrameNo)
    (n : Fin 8) : st.runningStart f n g = .still st :=
  if_pos none

theorem Stream.runningStart_whole {st : Stream} {g : List (Fin 32 × SlotRecord)} (some' : 1 ≤ g.length)
    (whole : g.length ≤ st.queue.length) (f : FrameNo) (n : Fin 8) : st.runningStart f n g = st.release g :=
  (if_neg (by omega)).trans (if_pos whole)

theorem Stream.runningStart_short {st : Stream} {g : List (Fin 32 × SlotRecord)} (short : st.queue.length < g.length)
    (f : FrameNo) (n : Fin 8) : st.runningStart f n g = st.underrun f n g :=
  (if_neg (by omega)).trans (if_neg (Nat.not_le.2 short))

theorem Stream.primingStart_ready {st : Stream} {g : List (Fin 32 × SlotRecord)}
    (level : st.effective st.startLevel ≤ st.queue.length) (whole : g.length ≤ st.queue.length) :
    st.primingStart g = st.release g :=
  if_pos ⟨level, whole⟩

theorem Stream.primingStart_waits {st : Stream} {g : List (Fin 32 × SlotRecord)}
    (waits : st.queue.length < st.effective st.startLevel ∨ st.queue.length < g.length) :
    st.primingStart g = { StreamMove.still st with drives := st.fillDrives g } :=
  if_neg fun ⟨level, whole⟩ => waits.elim (Nat.not_lt.2 level) (Nat.not_lt.2 whole)

/-- The release of an enabled stream at a frame start, its live set fixed. -/
def State.startRelease (s : State) (n : Fin 8) : StreamMove :=
  (s.su.streams[n].withLive (liveSlots s.nextFrame.formedMap s.nd n)).frameRelease (s.fe.frameNo + 1)
    s.nextFrame.formedMap n

/-- The group of a stream in the map formed at the frame start (R120). -/
def State.startGroup (s : State) (n : Fin 8) : List (Fin 32 × SlotRecord) :=
  groupOf s.nextFrame.formedMap (liveSlots s.nextFrame.formedMap s.nd n)

theorem State.startMove_enabled {s : State} {n : Fin 8} (on : s.su.streams[n].state ≠ .disabled) :
    s.startMove n = { s.startRelease n with
      gaps := lanesChanged (s.fe.frameNo + 1) n s.su.streams[n] (liveSlots s.nextFrame.formedMap s.nd n) ++
        (s.startRelease n).gaps } :=
  frameStartMove_enabled on _ _ _ n

theorem State.startMove_disabled {s : State} {n : Fin 8} (off : s.su.streams[n].state = .disabled) :
    s.startMove n = .still s.su.streams[n] :=
  frameStartMove_disabled off _ _ _ n

/-- The stream with the live set the frame start fixes (R120). -/
def State.startStream (s : State) (n : Fin 8) : Stream :=
  s.su.streams[n].withLive (liveSlots s.nextFrame.formedMap s.nd n)

theorem State.startRelease_running {s : State} {n : Fin 8} (dir : s.su.streams[n].dir = .playback)
    (running : s.su.streams[n].state = .running) :
    s.startRelease n = (s.startStream n).runningStart (s.fe.frameNo + 1) n (s.startGroup n) :=
  Stream.frameRelease_running (st := s.startStream n) dir running _ _ n

theorem State.startRelease_priming {s : State} {n : Fin 8} (dir : s.su.streams[n].dir = .playback)
    (priming : s.su.streams[n].state = .priming) :
    s.startRelease n = (s.startStream n).primingStart (s.startGroup n) :=
  Stream.frameRelease_priming (st := s.startStream n) dir priming _ _ n

/-- A RUNNING stream with no live lane moves nothing (R124). -/
theorem State.startRelease_none {s : State} {n : Fin 8} (dir : s.su.streams[n].dir = .playback)
    (running : s.su.streams[n].state = .running) (none : (s.startGroup n).length = 0) :
    s.startRelease n = .still (s.startStream n) :=
  (State.startRelease_running dir running).trans (Stream.runningStart_none none _ _)

/-- A RUNNING stream that holds a whole group releases it (R124). -/
theorem State.startRelease_whole {s : State} {n : Fin 8} (dir : s.su.streams[n].dir = .playback)
    (running : s.su.streams[n].state = .running) (some' : 1 ≤ (s.startGroup n).length)
    (whole : (s.startGroup n).length ≤ s.su.streams[n].queue.length) :
    s.startRelease n = (s.startStream n).release (s.startGroup n) :=
  (State.startRelease_running dir running).trans (Stream.runningStart_whole (st := s.startStream n) some' whole _ _)

/-- A RUNNING stream short of a group underruns (R124). -/
theorem State.startRelease_short {s : State} {n : Fin 8} (dir : s.su.streams[n].dir = .playback)
    (running : s.su.streams[n].state = .running) (short : s.su.streams[n].queue.length < (s.startGroup n).length) :
    s.startRelease n = (s.startStream n).underrun (s.fe.frameNo + 1) n (s.startGroup n) :=
  (State.startRelease_running dir running).trans (Stream.runningStart_short (st := s.startStream n) short _ _)

/-- A PRIMING stream at its start level with a whole group starts (R123). -/
theorem State.startRelease_ready {s : State} {n : Fin 8} (dir : s.su.streams[n].dir = .playback)
    (priming : s.su.streams[n].state = .priming)
    (level : s.su.streams[n].effective s.su.streams[n].startLevel ≤ s.su.streams[n].queue.length)
    (whole : (s.startGroup n).length ≤ s.su.streams[n].queue.length) :
    s.startRelease n = (s.startStream n).release (s.startGroup n) :=
  (State.startRelease_priming dir priming).trans (Stream.primingStart_ready (st := s.startStream n) level whole)

/-- A PRIMING stream short of either waits (R123). -/
theorem State.startRelease_waits {s : State} {n : Fin 8} (dir : s.su.streams[n].dir = .playback)
    (priming : s.su.streams[n].state = .priming)
    (waits : s.su.streams[n].queue.length < s.su.streams[n].effective s.su.streams[n].startLevel ∨
      s.su.streams[n].queue.length < (s.startGroup n).length) :
    s.startRelease n =
      { StreamMove.still (s.startStream n) with drives := (s.startStream n).fillDrives (s.startGroup n) } :=
  (State.startRelease_priming dir priming).trans (Stream.primingStart_waits (st := s.startStream n) waits)

theorem State.startMove_live {s : State} {n : Fin 8} (on : s.su.streams[n].state ≠ .disabled) :
    (s.startMove n).stream.live = liveSlots s.nextFrame.formedMap s.nd n := by
  rw [State.startMove_enabled on]
  exact Stream.frameRelease_live _ _ _ _

/-! ### The slots a stream gives the frame -/

/-- The slots of a group carrying the values given, lane by lane. -/
def drivesOf (g : List (Fin 32 × SlotRecord)) (values : List Sample) : List Drive :=
  (g.zip values).map fun p => driveOf p.1 p.2

theorem Stream.fillDrives_eq (st : Stream) (g : List (Fin 32 × SlotRecord)) :
    st.fillDrives g = drivesOf g (g.map fun p => st.fillValue p.2.lane) := by
  rw [drivesOf, Stream.fillDrives, ← List.map_prod_left_eq_zip, List.map_map]
  rfl

/-- The values the lanes of a group carry: the samples of a release, else the fill values (R123 to R125). -/
def Stream.startValues (st : Stream) (g : List (Fin 32 × SlotRecord)) : List Sample :=
  if (decide (g.length ≤ st.queue.length) &&
      (decide (st.state = .running) || decide (st.effective st.startLevel ≤ st.queue.length))) = true then
    st.queue.take g.length
  else g.map fun p => st.fillValue p.2.lane

theorem Stream.startValues_released {st : Stream} {g : List (Fin 32 × SlotRecord)} (whole : g.length ≤ st.queue.length)
    (ready : st.state = .running ∨ st.effective st.startLevel ≤ st.queue.length) :
    st.startValues g = st.queue.take g.length := by
  refine if_pos ?_
  rw [Bool.and_eq_true, Bool.or_eq_true, decide_eq_true_iff, decide_eq_true_iff, decide_eq_true_iff]
  exact ⟨whole, ready⟩

theorem Stream.startValues_filled {st : Stream} {g : List (Fin 32 × SlotRecord)}
    (waits : ¬(g.length ≤ st.queue.length ∧ (st.state = .running ∨ st.effective st.startLevel ≤ st.queue.length))) :
    st.startValues g = g.map fun p => st.fillValue p.2.lane := by
  refine if_neg ?_
  rw [Bool.and_eq_true, Bool.or_eq_true, decide_eq_true_iff, decide_eq_true_iff, decide_eq_true_iff]
  exact waits

/-- The slots of an enabled playback stream (R19, R123 to R125). -/
theorem State.startRelease_drives {s : State} {n : Fin 8} (dir : s.su.streams[n].dir = .playback)
    (on : s.su.streams[n].state ≠ .disabled) :
    (s.startRelease n).drives = drivesOf (s.startGroup n) (s.su.streams[n].startValues (s.startGroup n)) := by
  cases state : s.su.streams[n].state with
  | disabled => exact absurd state on
  | running =>
    by_cases none : (s.startGroup n).length = 0
    · rw [State.startRelease_none dir state none, List.length_eq_zero_iff.1 none]
      rfl
    by_cases whole : (s.startGroup n).length ≤ s.su.streams[n].queue.length
    · rw [State.startRelease_whole dir state (by omega) whole, Stream.startValues_released whole (.inl state)]
      rfl
    · rw [State.startRelease_short dir state (Nat.lt_of_not_le whole), Stream.startValues_filled fun both => whole both.1]
      exact Stream.fillDrives_eq _ _
  | priming =>
    have notRunning : ¬s.su.streams[n].state = .running := fun running => nomatch state.symm.trans running
    by_cases ready : s.su.streams[n].effective s.su.streams[n].startLevel ≤ s.su.streams[n].queue.length ∧
        (s.startGroup n).length ≤ s.su.streams[n].queue.length
    · obtain ⟨level, whole⟩ := ready
      rw [State.startRelease_ready dir state level whole, Stream.startValues_released whole (.inr level)]
      rfl
    · have waits := (not_and_or.1 ready).imp Nat.lt_of_not_le Nat.lt_of_not_le
      rw [State.startRelease_waits dir state waits,
        Stream.startValues_filled fun ⟨whole, level⟩ => ready ⟨level.resolve_left notRunning, whole⟩]
      exact Stream.fillDrives_eq _ _

/-- The slots of a stream at a frame start: an enabled playback stream's group with its values, else none. -/
theorem State.startMove_drives (s : State) (n : Fin 8) :
    (s.startMove n).drives = if s.su.streams[n].dir = .playback ∧ s.su.streams[n].state ≠ .disabled then
      drivesOf (s.startGroup n) (s.su.streams[n].startValues (s.startGroup n)) else [] := by
  by_cases on : s.su.streams[n].state = .disabled
  · rw [State.startMove_disabled on, if_neg fun both => both.2 on]
    rfl
  rw [State.startMove_enabled on]
  cases dir : s.su.streams[n].dir with
  | capture =>
    rw [if_neg (by nofun)]
    exact congrArg StreamMove.drives (Stream.frameRelease_capture (st := s.su.streams[n].withLive _) dir _ _ n)
  | playback =>
    rw [if_pos ⟨rfl, on⟩]
    exact State.startRelease_drives dir on

/-! ### The records a stream makes -/

/-- A stream's release makes a record only at the first underrun of a run (R124). -/
theorem State.startRelease_gaps {s : State} {n : Fin 8} (on : s.su.streams[n].state ≠ .disabled) :
    (s.startRelease n).gaps = if s.su.streams[n].dir = .playback ∧ s.su.streams[n].state = .running ∧
        s.su.streams[n].queue.length < (s.startGroup n).length ∧ s.su.streams[n].xrun = false then
      [{ stream := n, kind := .underrun, frame := s.fe.frameNo + 1, index := s.su.streams[n].counter, lanes := none }]
    else [] := by
  cases dir : s.su.streams[n].dir with
  | capture =>
    rw [if_neg (by nofun)]
    exact congrArg StreamMove.gaps (Stream.frameRelease_capture (st := s.su.streams[n].withLive _) dir _ _ n)
  | playback =>
    cases state : s.su.streams[n].state with
    | disabled => exact absurd state on
    | priming =>
      rw [State.startRelease_priming dir state, if_neg (by nofun), Stream.primingStart]
      split <;> rfl
    | running =>
      by_cases short : s.su.streams[n].queue.length < (s.startGroup n).length
      · rw [State.startRelease_short dir state short]
        cases xrun : s.su.streams[n].xrun with
        | true =>
          rw [if_neg (by nofun)]
          exact if_pos xrun
        | false =>
          rw [if_pos ⟨rfl, rfl, short, rfl⟩]
          exact if_neg fun on => Bool.false_ne_true (xrun.symm.trans on)
      · rw [if_neg fun all => short all.2.2.1]
        by_cases none : (s.startGroup n).length = 0
        · rw [State.startRelease_none dir state none]
          rfl
        · rw [State.startRelease_whole dir state (by omega) (by omega)]
          rfl

/-- The records of a stream at a frame start, in order (R128). -/
theorem State.startMove_gaps (s : State) (n : Fin 8) :
    (s.startMove n).gaps =
      (if s.su.streams[n].state ≠ .disabled ∧ (s.startMove n).stream.live ≠ s.su.streams[n].live then
        [{ stream := n, kind := .lanesChanged, frame := s.fe.frameNo + 1, index := s.su.streams[n].counter
           lanes := some (s.startMove n).stream.live.length }] else []) ++
      (if s.su.streams[n].dir = .playback ∧ s.su.streams[n].state = .running ∧
          s.su.streams[n].queue.length < (s.startGroup n).length ∧ s.su.streams[n].xrun = false then
        [{ stream := n, kind := .underrun, frame := s.fe.frameNo + 1, index := s.su.streams[n].counter, lanes := none }]
      else []) := by
  by_cases on : s.su.streams[n].state = .disabled
  · have notRunning : ¬s.su.streams[n].state = .running := fun running => nomatch on.symm.trans running
    rw [State.startMove_disabled on, if_neg fun both => both.1 on, if_neg fun all => notRunning all.2.1]
    rfl
  · rw [State.startMove_live on, ← State.startRelease_gaps on, State.startMove_enabled on, lanesChanged]
    refine congrArg (· ++ _) ?_
    by_cases same : liveSlots s.nextFrame.formedMap s.nd n = s.su.streams[n].live
    · rw [if_pos same, if_neg fun both => both.2 same]
    · rw [if_neg same, if_pos ⟨on, same⟩]

/-! ### The group of a stream -/

theorem mem_groupOf (m : SlotTable) (live : List (Fin 32)) (p : Fin 32 × SlotRecord) :
    p ∈ groupOf m live ↔ p.1 ∈ live ∧ m[p.1] = some p.2 := by
  obtain ⟨k, r⟩ := p
  rw [groupOf, List.mem_flatMap]
  constructor
  · rintro ⟨l, -, inner⟩
    obtain ⟨j, listed, e⟩ := List.mem_filterMap.1 inner
    split at e
    next r' held =>
      split at e
      · cases e
        exact ⟨listed, held⟩
      · cases e
    next => cases e
  · rintro ⟨listed, held⟩
    refine ⟨r.lane, List.mem_finRange _, List.mem_filterMap.2 ⟨k, listed, ?_⟩⟩
    rw [held]
    exact if_pos rfl

theorem groupOf_lanes (m : SlotTable) (live : List (Fin 32)) :
    (groupOf m live).Pairwise fun p q => p.2.lane ≤ q.2.lane := by
  have laneOf {l : Fin 8} {p : Fin 32 × SlotRecord}
      (inner : p ∈ live.filterMap fun k => match m[k] with
        | some r => if r.lane = l then some (k, r) else none
        | none => none) : p.2.lane = l := by
    obtain ⟨j, -, e⟩ := List.mem_filterMap.1 inner
    split at e
    next r' held =>
      split at e
      next lane => cases e; exact lane
      next => cases e
    next => cases e
  rw [groupOf, List.pairwise_flatMap]
  refine ⟨fun l _ => List.pairwise_of_forall_mem_list fun p hp q hq => ?_, ?_⟩
  · exact le_of_eq ((laneOf hp).trans (laneOf hq).symm)
  · refine List.Pairwise.imp (R := (· ≤ ·)) (fun {l l'} le p hp q hq => ?_) (by decide)
    exact (laneOf hp).trans_le (le.trans_eq (laneOf hq).symm)

/-! ### The line -/

theorem FrameEngine.running_iff {fe : FrameEngine} :
    fe.running = true ↔ fe.link = .syncing ∨ fe.link = .up ∨ fe.link = .draining := by
  unfold FrameEngine.running
  cases fe.link <;> simp

theorem State.lclkRuns_iff {s : State} :
    s.lclkRuns = true ↔ s.fe.link = .syncing ∨ s.fe.link = .up ∨ s.fe.link = .draining :=
  FrameEngine.running_iff

theorem State.ldat_stopped {s : State} (stopped : ¬s.fe.running = true) (p : Nat) : s.ldat p = none :=
  if_pos (Bool.eq_false_of_not_eq_true stopped)

/-- The head of a running frame (R3). -/
theorem State.ldat_head {s : State} (runs : s.fe.running = true) {p : Nat} (h : p < 24) :
    s.ldat p = some ((frameHead s.fe.frameNo).getMsbD p) := by
  rw [State.ldat, if_neg (by rw [runs]; nofun), if_pos h]

/-- The command field of a running frame (R4). -/
theorem State.ldat_field {s : State} (runs : s.fe.running = true) {p : Nat} (above : 24 ≤ p) (below : p < 72) :
    s.ldat p = s.cx.field.map fun w => w.getMsbD (p - 24) := by
  rw [State.ldat, if_neg (by rw [runs]; nofun), if_neg (by omega), if_pos below]

/-- The line is released between the command field and the payload, and past the frame (R2). -/
theorem State.ldat_released (s : State) {p : Nat} (above : 72 ≤ p)
    (outside : p < 128 ∨ s.fe.session.frameLength ≤ p) : s.ldat p = none := by
  by_cases runs : s.fe.running = true
  · have head : ¬p < 24 := by omega
    have field : ¬p < 72 := by omega
    exact (if_neg (by rw [runs]; nofun)).trans ((if_neg head).trans ((if_neg field).trans (if_pos outside)))
  · exact State.ldat_stopped runs p

/-- In the payload the line carries the playback slots (R19). -/
theorem State.ldat_payload {s : State} (runs : s.fe.running = true) {p : Nat} (above : 128 ≤ p)
    (below : p < s.fe.session.frameLength) : s.ldat p = s.su.drives.findSome? fun d => d.bitAt p := by
  rw [State.ldat, if_neg (by rw [runs]; nofun), if_neg (by omega), if_neg (by omega), if_neg (by omega)]

theorem Drive.bitAt_covered {d : Drive} {p : Nat}
    (covered : d.start.toNat ≤ p ∧ p < d.start.toNat + d.width.bits) :
    d.bitAt p = some (d.value.getLsbD (d.start.toNat + d.width.bits - 1 - p)) :=
  if_pos covered

theorem Drive.bitAt_outside {d : Drive} {p : Nat}
    (outside : ¬(d.start.toNat ≤ p ∧ p < d.start.toNat + d.width.bits)) : d.bitAt p = none :=
  if_neg outside

/-- A search whose one hit is known. -/
theorem findSome?_of_unique {α β : Type} {f : α → Option β} {x : α} {y : β} (hit : f x = some y) :
    ∀ {l : List α}, x ∈ l → (∀ z ∈ l, f z ≠ none → z = x) → l.findSome? f = some y
  | z :: l, member, only => by
    cases e : f z with
    | some w =>
      have same := only z List.mem_cons_self (by rw [e]; nofun)
      rw [List.findSome?_cons, e, ← hit, ← e, same]
      simp only [hit]
    | none =>
      rw [List.findSome?_cons, e]
      refine findSome?_of_unique hit ?_ fun w inner => only w (List.mem_cons_of_mem _ inner)
      rcases List.mem_cons.1 member with rfl | inner
      · exact nomatch hit.symm.trans e
      · exact inner

/-- The line of a frame, position by position (R1 to R4, R19 to R21). -/
theorem State.line (s : State) (p : Nat) :
    let runs : Prop := s.fe.link = .syncing ∨ s.fe.link = .up ∨ s.fe.link = .draining
    let covers (d : Drive) : Prop := d.start.toNat ≤ p ∧ p < d.start.toNat + d.width.bits
    (s.lclkRuns = true ↔ runs) ∧ (runs → s.lclkPeriod = some (2 * s.fe.session.div.toNat)) ∧
    (¬runs → s.lclkPeriod = none) ∧
    (¬runs → s.ldat p = none) ∧
    (runs → p < 8 → s.ldat p = some ((0xB2#8).getLsbD (7 - p))) ∧
    (runs → 8 ≤ p → p < 24 → s.ldat p = some (s.fe.frameNo.getLsbD (23 - p))) ∧
    (∀ w, runs → 24 ≤ p → p < 72 → s.cx.field = some w → s.ldat p = some (w.getLsbD (71 - p))) ∧
    (72 ≤ p → p < 128 → s.ldat p = none) ∧
    (s.fe.session.frameLength ≤ p → 128 ≤ p → s.ldat p = none) ∧
    (128 ≤ p → (∀ d ∈ s.su.drives, ¬covers d) → s.ldat p = none) ∧
    (∀ d ∈ s.su.drives, runs → 128 ≤ p → p < s.fe.session.frameLength → covers d →
      (∀ d' ∈ s.su.drives, covers d' → d' = d) →
      s.ldat p = some (d.value.getLsbD (d.start.toNat + d.width.bits - 1 - p))) := by
  intro runs covers
  have running : s.fe.running = true ↔ runs := FrameEngine.running_iff
  rw [← running]
  refine ⟨Iff.rfl, fun r => if_pos r, fun r => if_neg r, fun r => State.ldat_stopped r p, fun r low => ?_,
    fun r above low => ?_, fun w r above low e => ?_, fun above low => s.ldat_released above (.inl low),
    fun past above => s.ldat_released (by omega) (.inr past), fun above clear => ?_,
    fun d member r above inside covered only => ?_⟩
  · rw [State.ldat_head r (by omega), frameHead, BitVec.getMsbD_append, if_neg (by omega), BitVec.getMsbD_eq_getLsbD,
      decide_eq_true low, Bool.true_and]
    rfl
  · have rest : p - 8 < 16 := by omega
    have place : 16 - 1 - (p - 8) = 23 - p := by omega
    rw [State.ldat_head r low, frameHead, BitVec.getMsbD_append, if_pos above, BitVec.getMsbD_eq_getLsbD,
      decide_eq_true rest, Bool.true_and, place]
  · have rest : p - 24 < 48 := by omega
    have place : 48 - 1 - (p - 24) = 71 - p := by omega
    rw [State.ldat_field r above low, e, Option.map_some, BitVec.getMsbD_eq_getLsbD, decide_eq_true rest, Bool.true_and,
      place]
  · by_cases r : s.fe.running = true
    · by_cases inside : p < s.fe.session.frameLength
      · rw [State.ldat_payload r above inside, List.findSome?_eq_none_iff]
        exact fun d member => Drive.bitAt_outside (clear d member)
      · exact s.ldat_released (by omega) (.inr (Nat.le_of_not_lt inside))
    · exact State.ldat_stopped r p
  · rw [State.ldat_payload r above inside]
    refine findSome?_of_unique (f := fun d => d.bitAt p) (Drive.bitAt_covered covered) member fun d' listed hit => only d' listed ?_
    by_contra outside
    exact hit (Drive.bitAt_outside outside)

/-! ### The frame start's playback -/

/-- A released group: the queue, the counter, the hold values and the state (R123 to R125). -/
theorem release_moved {s : State} {n : Fin 8} (on : s.su.streams[n].state ≠ .disabled)
    (released : s.startRelease n = (s.startStream n).release (s.startGroup n)) :
    let st := s.su.streams[n]
    let st' := (s.startMove n).stream
    let g := s.startGroup n
    st'.queue = st.queue.drop g.length ∧ st'.counter = st.counter + BitVec.ofNat 32 g.length ∧ st'.xrun = false ∧
    st'.underruns = st.underruns ∧ st'.state = .running ∧ st'.hold = heldAfter st.hold g (st.queue.take g.length) ∧
    (∀ (i : Nat) (p : Fin 32 × SlotRecord) (x : Sample), g[i]? = some p → st.queue[i]? = some x →
      (∀ (j : Nat) (q : Fin 32 × SlotRecord), g[j]? = some q → q.2.lane = p.2.lane → j = i) →
      st'.hold[p.2.lane] = x) ∧
    (∀ l : Fin 8, (∀ p ∈ g, p.2.lane ≠ l) → st'.hold[l] = st.hold[l]) := by
  intro st st' g
  have move : st' = ((s.startStream n).release g).stream := by
    change (s.startMove n).stream = _
    rw [State.startMove_enabled on, released]
  have held : st'.hold = heldAfter st.hold g (st.queue.take g.length) := by
    rw [move]
    rfl
  refine ⟨by rw [move]; rfl, by rw [move]; rfl, by rw [move]; rfl, by rw [move]; rfl, by rw [move]; rfl, held,
    fun i p x ep ex once => ?_, fun l other => ?_⟩
  · rw [held]
    refine heldAfter_named ep ?_ once st.hold
    rw [List.getElem?_take, if_pos (List.getElem?_eq_some_iff.1 ep).1, ex]
  · rw [held]
    exact heldAfter_other other _ _

/-- A stream whose release moves nothing keeps its queue, its counter, its hold values and its state. -/
theorem stays_still {s : State} {n : Fin 8} (on : s.su.streams[n].state ≠ .disabled) {m : StreamMove}
    (release : s.startRelease n = m) (queue : m.stream.queue = s.su.streams[n].queue)
    (counter : m.stream.counter = s.su.streams[n].counter) (hold : m.stream.hold = s.su.streams[n].hold)
    (state : m.stream.state = s.su.streams[n].state) :
    (s.startMove n).stream.queue = s.su.streams[n].queue ∧ (s.startMove n).stream.counter = s.su.streams[n].counter ∧
    (s.startMove n).stream.hold = s.su.streams[n].hold ∧ (s.startMove n).stream.state = s.su.streams[n].state := by
  rw [State.startMove_enabled on, release]
  exact ⟨queue, counter, hold, state⟩

/-- An underrun raises XRUN[n] by the end of the frame start (R124). -/
theorem State.frameStart_xrun {s : State}
    (serves : s.fe.link = .up ∨ (s.fe.link = .draining ∧ s.fe.drainFromSync = false)) {n : Fin 8}
    (raised : (s.startMove n).xrun = true) : s.served.settleField.eu.xrun.getLsbD n.val = true := by
  rw [(gaps_of_commitDone s.served.settleField_eu).2.2, State.served_serving serves]
  exact State.startStreams_xrun _ n ((congrArg StreamMove.xrun (s.formMap_startMove n)).trans raised)

/-- The slots and the records of a frame start, stream by stream (R19, R128, R158). -/
theorem State.frameStart_exact {s : State}
    (serves : s.fe.link = .up ∨ (s.fe.link = .draining ∧ s.fe.drainFromSync = false)) :
    s.served.settleField.su.drives = (List.finRange 8).flatMap (fun n => (s.startMove n).drives) ∧
    s.served.settleField.eu.gaps =
      s.eu.gaps ++ ((List.finRange 8).flatMap fun n => (s.startMove n).gaps).take (16 - s.eu.gaps.length) ∧
    s.served.settleField.eu.sticky.getLsbD 10 = (s.eu.sticky.getLsbD 10 ||
      decide (16 - s.eu.gaps.length < ((List.finRange 8).flatMap fun n => (s.startMove n).gaps).length)) := by
  obtain ⟨formedGaps, formedSticky, -⟩ := gaps_of_commitDone s.nextFrame.formMap_eu
  obtain ⟨gaps, sticky, -⟩ := gaps_of_commitDone s.served.settleField_eu
  obtain ⟨made, overflow, drives⟩ := State.startStreams_exact s.nextFrame.formMap
  have moves (n : Fin 8) := s.formMap_startMove n
  simp only [moves] at made overflow drives
  rw [formedGaps] at made overflow
  rw [formedSticky] at overflow
  rw [State.formMap_su] at drives
  rw [gaps, sticky, State.settleField_su, State.served_serving serves]
  exact ⟨drives, made, overflow⟩

/-- Settles O36: the case of the release gives the stream, the moves of all streams in order give the slots and the
records. -/
theorem playbackReleasesWholeGroups : Obligations.PlaybackReleasesWholeGroups := by
  refine ⟨fun s serves => ?_, fun m live => ⟨mem_groupOf m live, groupOf_lanes m live⟩, fun c => rfl, State.line⟩
  have working : s.fe.link = .up ∨ s.fe.link = .draining := serves.imp_right And.left
  refine ⟨_, exec_frameStart_working working, fun n dir => ?_, ?_⟩
  · rw [State.frameStart_stream serves, State.frameStart_active]
    intro st st' g moved stays
    have group (on : st.state ≠ .disabled) : g = s.startGroup n :=
      congrArg (groupOf s.nextFrame.formedMap) (State.startMove_live on)
    clear_value g
    refine ⟨fun state alone => ?_, fun state some' whole => ?_, fun state short => ?_,
      fun state level whole => ?_, fun state waits => ?_⟩
    all_goals
      have on : st.state ≠ .disabled := fun off => nomatch off.symm.trans state
      have same := group on
      subst same
    · have release := State.startRelease_none dir state alone
      refine ⟨stays_still on release rfl rfl rfl rfl, ?_⟩
      change (s.startMove n).stream.underruns = _ ∧ (s.startMove n).stream.xrun = _
      rw [State.startMove_enabled on, release]
      exact ⟨rfl, rfl⟩
    · exact release_moved on (State.startRelease_whole dir state some' whole)
    · have release := State.startRelease_short dir state short
      refine ⟨stays_still on release rfl rfl rfl rfl, ?_⟩
      change (s.startMove n).stream.underruns.toNat = _ ∧ (s.startMove n).stream.xrun = _ ∧ _
      have raised : (s.startMove n).xrun = true := by
        rw [State.startMove_enabled on, release]
        rfl
      refine ⟨?_, ?_, State.frameStart_xrun serves raised⟩
      all_goals rw [State.startMove_enabled on, release]
      · exact satInc_toNat _
      · rfl
    · exact release_moved on (State.startRelease_ready dir state level whole)
    · have release := State.startRelease_waits dir state waits
      refine ⟨stays_still on release rfl rfl rfl rfl, ?_⟩
      change (s.startMove n).stream.underruns = _ ∧ (s.startMove n).stream.xrun = _
      rw [State.startMove_enabled on, release]
      exact ⟨rfl, rfl⟩
  · obtain ⟨drives, made, overflow⟩ := State.frameStart_exact serves
    have live (n : Fin 8) : s.served.settleField.su.streams[n].live = (s.startMove n).stream.live :=
      congrArg Stream.live (State.frameStart_stream serves n)
    have records (n : Fin 8) := s.startMove_gaps n
    have slots (n : Fin 8) := s.startMove_drives n
    intro group carried made' records' room
    have group_eq (n : Fin 8) (on : s.su.streams[n].state ≠ .disabled) : group n = s.startGroup n := by
      change groupOf s.served.settleField.sm.active _ = _
      rw [live n, State.startMove_live on, State.frameStart_active]
      rfl
    have carried_eq : carried = fun n => (s.startMove n).drives := by
      funext n
      rw [slots n]
      by_cases plays : s.su.streams[n].dir = .playback ∧ s.su.streams[n].state ≠ .disabled
      · rw [if_pos plays, ← group_eq n plays.2]
        exact if_pos plays
      · rw [if_neg plays]
        exact if_neg plays
    have made_eq : made' = fun n => (s.startMove n).gaps := by
      funext n
      rw [records n, ← live n]
      by_cases on : s.su.streams[n].state = .disabled
      · have notRunning : ¬s.su.streams[n].state = .running := fun running => nomatch on.symm.trans running
        exact congrArg (_ ++ ·)
          ((if_neg fun all => notRunning all.2.1).trans (if_neg fun all => notRunning all.2.1).symm)
      · rw [← group_eq n on]
    change _ = (List.finRange 8).flatMap carried ∧ _ = _ ++ ((List.finRange 8).flatMap made').take _ ∧
      _ = (_ || decide (_ < ((List.finRange 8).flatMap made').length))
    rw [carried_eq, made_eq]
    exact ⟨drives, made, overflow⟩

end Sys2Proof.Machine
end

section
/-! PROOFS. The arbiter at a frame start: keepalive, the issue-time checks and the order of the sources (chapters 3.2,
3.7, 6.3 to 6.6 and 9.2). -/
namespace Sys2Proof.Machine

/-! ### Keepalive -/

theorem State.isDue_iff {s : State} {a : NodeAddr} :
    s.isDue a = true ↔ (s.nd[a].state = .ready ∨ s.nd[a].state = .parked) ∧
      s.cx.cfg.interval.toNat ≤ (s.fe.frameNo - s.nd[a].lastHeard).toNat := by
  rw [State.isDue, Entry.due, Bool.and_eq_true, EntryState.keepsSlots_iff, decide_eq_true_iff]
  rfl

/-- The address a search finds is the lowest that satisfies `p`. -/
theorem find?_addresses {p : NodeAddr → Bool} {a : NodeAddr} (found : addresses.find? p = some a) :
    p a = true ∧ ∀ b, p b = true → a ≤ b := by
  rw [List.find?_eq_some_iff_getElem] at found
  obtain ⟨holds, i, lt, rfl, first⟩ := found
  refine ⟨holds, fun b good => Nat.le_of_not_lt fun below => ?_⟩
  have place : addresses[i].val = i := by simp [addresses]
  have miss := first b.val (by omega)
  simp [addresses, good] at miss

theorem find?_addresses_none {p : NodeAddr → Bool} : addresses.find? p = none ↔ ∀ a, ¬p a = true := by
  rw [List.find?_eq_none]
  exact ⟨fun h a => h a (mem_addresses a), fun h a _ => h a⟩

theorem State.dueEntry_none {s : State} (never : ∀ a, ¬s.isDue a = true) : s.dueEntry = none := by
  have above : addresses.find? (fun a => decide (s.cx.scan < a.val + 1) && s.isDue a) = none :=
    find?_addresses_none.2 fun a both => never a (Bool.and_eq_true_iff.1 both).2
  rw [State.dueEntry, above]
  exact find?_addresses_none.2 never

/-- Where an entry is due keepalive takes one: the lowest above the scan position, or else the lowest (R51). -/
theorem State.dueEntry_some {s : State} (due : ∃ a, s.isDue a = true) :
    ∃ a, s.dueEntry = some a ∧ s.isDue a = true ∧
      (∀ b, s.isDue b = true → s.cx.scan < b.val + 1 → s.cx.scan < a.val + 1 ∧ a ≤ b) ∧
      ((∀ b, s.isDue b = true → b.val + 1 ≤ s.cx.scan) → ∀ b, s.isDue b = true → a ≤ b) := by
  cases above : addresses.find? (fun a => decide (s.cx.scan < a.val + 1) && s.isDue a) with
  | some a =>
    obtain ⟨holds, first⟩ := find?_addresses above
    obtain ⟨past, isDue⟩ := Bool.and_eq_true_iff.1 holds
    have past := of_decide_eq_true past
    refine ⟨a, ?_, isDue, fun b bDue bPast => ⟨past, first b ?_⟩, fun below => ?_⟩
    · rw [State.dueEntry, above]
    · rw [bDue, decide_eq_true bPast]
      rfl
    · exact absurd (below a isDue) (Nat.not_le.2 past)
  | none =>
    have nothingAbove := find?_addresses_none.1 above
    cases lowest : addresses.find? s.isDue with
    | none =>
      obtain ⟨a, isDue⟩ := due
      exact absurd isDue (find?_addresses_none.1 lowest a)
    | some a =>
      obtain ⟨isDue, first⟩ := find?_addresses lowest
      refine ⟨a, ?_, isDue, fun b bDue bPast => absurd ?_ (nothingAbove b), fun _ b bDue => first b bDue⟩
      · rw [State.dueEntry, above]
        exact lowest
      · rw [bDue, decide_eq_true bPast]
        rfl

theorem State.offerKeepalive_none {s : State} (never : s.dueEntry = none) : s.offerKeepalive = s := by
  rw [State.offerKeepalive, never, ite_self]

theorem State.offerKeepalive_some {s : State} {a : NodeAddr} (up : s.fe.link = .up) (on : s.cx.cfg.interval ≠ 0)
    (due : s.dueEntry = some a) :
    s.offerKeepalive = (s.setCx { s.cx with scan := a.val + 1 }).grant .keepalive (.node a) .ping := by
  rw [State.offerKeepalive, if_pos ⟨up, on⟩, due]

/-- A PING is never preceded by a resynchronising PING (R48). -/
theorem State.needsResync_ping (s : State) (t : Target) : s.needsResync t .ping = false := by
  cases t with
  | node a => exact Bool.and_false _
  | unbound => rfl
  | broadcast => rfl

/-- The entry found due at the offer is the one of the state before the frame start. -/
theorem State.served_isDue_iff {s : State} {a : NodeAddr} :
    s.served.isDue a = true ↔ (s.nd[a].state = .ready ∨ s.nd[a].state = .parked) ∧
      s.cx.cfg.interval.toNat ≤ (s.fe.frameNo + 1 - s.nd[a].lastHeard).toNat := by
  rw [State.isDue_iff, State.served_nd, State.served_cx, State.served_fe]

theorem State.served_ce_idle {s : State} (idle : s.ce.phase = .idle) : s.served.ce.phase = .idle := by
  rw [State.served_ce, State.formMap_idle (s := s.nextFrame) idle]
  exact idle

/-- Settles O38: every other source declines, and keepalive takes the due entry its search finds. -/
theorem keepaliveServesDueEntries : Obligations.KeepaliveServesDueEntries := by
  intro s up free idle still empty on due
  have settled : s.served.settleField = s.served.offerKeepalive := by
    have free' : s.served.cx.inFlight = none := by rw [State.served_cx]; exact free
    rw [State.settleField_requests free' (State.served_ce_idle idle) (by rw [State.served_sv]; exact still),
      State.offerRequests_empty (by rw [State.served_rq]; exact empty), State.offerTo_free free']
  have isDue (a : NodeAddr) : s.served.isDue a = true ↔ due a := State.served_isDue_iff
  refine ⟨_, exec_frameStart_working (.inl up), fun never => ?_, fun some' => ?_⟩
  · rw [settled, State.offerKeepalive_none (State.dueEntry_none fun a => mt (isDue a).1 (never a)), State.served_cx]
    exact ⟨free, rfl⟩
  · obtain ⟨a, taken, holds, above, lowest⟩ := State.dueEntry_some (some'.imp fun a => (isDue a).2)
    have granted : s.served.offerKeepalive = _ := State.offerKeepalive_some (by rw [State.served_fe]; exact up)
      (by rw [State.served_cx]; exact on) taken
    simp only [isDue, State.served_cx] at holds above lowest
    rw [settled, granted, State.grant, State.needsResync_ping]
    exact ⟨a, holds, rfl, rfl, above, lowest⟩

/-! ### The issue-time checks -/

theorem sentIfPresent_present {st : EntryState} (present : st = .ready ∨ st = .parked) (c : LinkCommand) :
    sentIfPresent st c = .sent c :=
  if_pos (EntryState.keepsSlots_iff.2 present)

theorem sentIfPresent_absent {st : EntryState} (absent : ¬(st = .ready ∨ st = .parked)) (c : LinkCommand) :
    sentIfPresent st c = .settled .notBound false :=
  if_neg (mt EntryState.keepsSlots_iff.1 absent)

theorem issueCheck_absent {e : Entry} (absent : ¬(e.state = .ready ∨ e.state = .parked)) :
    issueCheck .park e = .settled .notBound false ∧ issueCheck .resume e = .settled .notBound false := by
  cases state : e.state with
  | ready => exact absurd (.inl state) absent
  | parked => exact absurd (.inr state) absent
  | free | bound | lost => simp only [issueCheck, state, and_self]

/-- A READY entry parks by its capability (R146). -/
theorem issueCheck_park_ready {e : Entry} {c : Caps} (ready : e.state = .ready) (caps : e.caps = some c) :
    issueCheck .park e = if c.a.getLsbD 8 = true then .sent .park else .settled .unsupported false := by
  simp only [issueCheck, ready, Entry.parkBit, caps]

/-- A request settled in turn leaves the entry of an address as it was or freed (R146). -/
theorem State.settle_entry (s : State) (q : Request) (o : CplOutcome) (frees : Bool) (a : NodeAddr) :
    (s.settle q o frees).nd[a] = if (frees && decide (q.addr = a)) = true then Entry.freeEntry else s.nd[a] := by
  unfold State.settle
  cases frees with
  | false => rfl
  | true =>
    change (upd s.nd q.addr Entry.freeEntry)[a] = _
    rw [upd_get, Bool.true_and]
    by_cases same : q.addr = a
    · rw [if_pos same, decide_eq_true same]
      rfl
    · rw [if_neg same, decide_eq_false same]
      rfl

/-- The requests of a list settled one after another, each with its outcome and whether it frees its entry (R145). -/
def State.settleAll (s : State) (l : List (Request × CplOutcome × Bool)) : State :=
  l.foldl (fun t x => t.settle x.1 x.2.1 x.2.2) s

/-- Each request's check, against the directory as those before it leave it, settles it as listed. -/
def State.SettledInTurn (s : State) : List (Request × CplOutcome × Bool) → Prop
  | [] => True
  | (q, o, frees) :: l => issueCheck q.op s.nd[q.addr] = .settled o frees ∧ (s.settle q o frees).SettledInTurn l

/-- The entry of an address once the requests of a list are settled (R67, R146). -/
def State.entryAfter (s : State) (l : List (Request × CplOutcome × Bool)) (a : NodeAddr) : Entry :=
  if l.any (fun x => x.2.2 && decide (x.1.addr = a)) = true then Entry.freeEntry else s.nd[a]

theorem State.entryAfter_cons (s : State) (x : Request × CplOutcome × Bool) (l : List (Request × CplOutcome × Bool))
    (a : NodeAddr) : s.entryAfter (x :: l) a = (s.settle x.1 x.2.1 x.2.2).entryAfter l a := by
  rw [State.entryAfter, State.entryAfter, List.any_cons, State.settle_entry]
  cases l.any (fun x => x.2.2 && decide (x.1.addr = a)) with
  | true => rw [if_pos (Bool.or_true _), if_pos rfl]
  | false => rw [Bool.or_false, if_neg Bool.false_ne_true]

theorem State.settleAll_entry (l : List (Request × CplOutcome × Bool)) (s : State) (a : NodeAddr) :
    (s.settleAll l).nd[a] = s.entryAfter l a := by
  induction l generalizing s with
  | nil => rfl
  | cons x l ih =>
    rw [State.entryAfter_cons]
    exact ih _

/-- Checks given place by place are checks in turn. -/
theorem State.settledInTurn_of_places {l : List (Request × CplOutcome × Bool)} {s : State}
    (h : ∀ (i : Nat) (q : Request) (o : CplOutcome) (frees : Bool), l[i]? = some (q, o, frees) →
      issueCheck q.op (s.entryAfter (l.take i) q.addr) = .settled o frees) : s.SettledInTurn l := by
  induction l generalizing s with
  | nil => trivial
  | cons x l ih =>
    obtain ⟨q, o, frees⟩ := x
    refine ⟨h 0 q o frees rfl, ih fun i q' o' frees' place => ?_⟩
    have later := h (i + 1) q' o' frees' place
    rw [List.take_succ_cons, State.entryAfter_cons] at later
    exact later

theorem State.settleAll_rq (l : List (Request × CplOutcome × Bool)) (s : State) :
    (s.settleAll l).rq = { s.rq with
      queue := s.rq.queue.drop l.length
      completions := s.rq.completions ++ l.map fun x =>
        { tag := x.1.tag, kind := x.1.op.kind, addr := x.1.addr, outcome := x.2.1, data := none, attempts := 0 } } := by
  induction l generalizing s with
  | nil => simp [State.settleAll]
  | cons x l ih =>
    have step : (s.settle x.1 x.2.1 x.2.2).rq = (s.complete x.1 x.2.1 none 0).rq := by
      unfold State.settle
      split <;> rfl
    change ((s.settle x.1 x.2.1 x.2.2).settleAll l).rq = _
    rw [ih, step, State.complete_rq]
    simp

theorem State.settleAll_cx (l : List (Request × CplOutcome × Bool)) (s : State) : (s.settleAll l).cx = s.cx := by
  induction l generalizing s with
  | nil => rfl
  | cons x l ih => exact (ih _).trans (State.settle_cx _ _ _ _)

theorem State.settleAll_fe (l : List (Request × CplOutcome × Bool)) (s : State) : (s.settleAll l).fe = s.fe := by
  induction l generalizing s with
  | nil => rfl
  | cons x l ih => exact (ih _).trans (State.settle_fe _ _ _ _)

/-- The requests settled in turn leave the queue while the completion list has room (R145). -/
theorem State.issueRequests_settled {l : List (Request × CplOutcome × Bool)} {s : State} {rest : List Request}
    (queue : s.rq.queue = l.map (fun x => x.1) ++ rest) (room : s.rq.completions.length + l.length ≤ 16)
    (turns : s.SettledInTurn l) (fuel : Nat) :
    State.issueRequests (l.length + fuel) s = State.issueRequests fuel (s.settleAll l) := by
  induction l generalizing s with
  | nil => rw [List.length_nil, Nat.zero_add]; rfl
  | cons x l ih =>
    obtain ⟨q, o, frees⟩ := x
    obtain ⟨check, turns⟩ := turns
    have fits : ¬Config.completionListSize ≤ s.rq.completions.length := by
      change ¬16 ≤ s.rq.completions.length
      rw [List.length_cons] at room
      omega
    have one := State.settleAll_rq [(q, o, frees)] s
    have step : State.issueRequests (((q, o, frees) :: l).length + fuel) s =
        State.issueRequests (l.length + fuel) (s.settle q o frees) := by
      rw [List.length_cons, Nat.add_right_comm, State.issueRequests, if_neg fits]
      simp only [queue, List.map_cons, List.cons_append, State.entry, check]
    rw [step]
    refine ih ?_ ?_ turns
    · exact (congrArg RequestQueue.queue one).trans (by rw [queue]; rfl)
    · have more : (s.settle q o frees).rq.completions.length = s.rq.completions.length + 1 :=
        (congrArg (fun r => r.completions.length) one).trans (List.length_append ..)
      rw [List.length_cons] at room
      omega

/-- A full completion list stalls the queue (R145). -/
theorem State.issueRequests_full {s : State} (full : 16 ≤ s.rq.completions.length) (fuel : Nat) :
    State.issueRequests fuel s = s := by
  cases fuel with
  | zero => rfl
  | succ fuel => exact if_pos full

/-- A request that needs traffic is granted the field (R145). -/
theorem State.issueRequests_sent {s : State} {q : Request} {rest : List Request} {c : LinkCommand}
    (room : s.rq.completions.length < 16) (queue : s.rq.queue = q :: rest) (check : issueCheck q.op s.nd[q.addr] = .sent c)
    (fuel : Nat) : State.issueRequests (fuel + 1) s = s.grant .request (.node q.addr) c := by
  have fits : ¬Config.completionListSize ≤ s.rq.completions.length := Nat.not_le.2 room
  rw [State.issueRequests, if_neg fits]
  simp only [queue, State.entry, check]

theorem State.grant_inFlight (s : State) (src : Source) (a : NodeAddr) (c : LinkCommand) :
    (s.grant src (.node a) c).cx.inFlight = some
      { source := src, target := .node a, cmd := c, attempt := 1, waits := 0
        stage := if s.nd[a].resync = true ∧ c ≠ .ping then .resyncPing else .command } := by
  have resync : (s.needsResync (.node a) c = true) = (s.nd[a].resync = true ∧ c ≠ .ping) := by
    rw [State.needsResync, Bool.and_eq_true, decide_eq_true_iff]
    rfl
  rw [State.grant]
  simp only [resync, State.setCx_cx]

/-- Keepalive grants its own PINGs alone. -/
theorem State.offerKeepalive_source {s : State} {r : InFlight} (free : s.cx.inFlight = none)
    (granted : s.offerKeepalive.cx.inFlight = some r) : r.source = .keepalive := by
  unfold State.offerKeepalive at granted
  split at granted
  · split at granted
    · cases granted
      rfl
    · cases free.symm.trans granted
  · cases free.symm.trans granted

theorem State.offerTo_offerKeepalive_rq (s : State) : (s.offerTo State.offerKeepalive).rq = s.rq := by
  unfold State.offerTo
  split <;> simp

theorem State.offerTo_offerKeepalive_nd (s : State) : (s.offerTo State.offerKeepalive).nd = s.nd := by
  unfold State.offerTo
  split <;> simp

/-- The frame start at which the Request Queue settles requests one after another. -/
theorem requestsIssued {s : State} {settled : List (Request × CplOutcome × Bool)} {rest : List Request}
    (up : s.fe.link = .up) (free : s.cx.inFlight = none) (idle : s.ce.phase = .idle)
    (still : s.sv.state.isRunning = false) (queue : s.rq.queue = settled.map (fun x => x.1) ++ rest)
    (room : s.rq.completions.length + settled.length ≤ 16)
    (turns : ∀ (i : Nat) (q : Request) (o : CplOutcome) (frees : Bool), settled[i]? = some (q, o, frees) →
      issueCheck q.op (s.entryAfter (settled.take i) q.addr) = .settled o frees)
    (stops : rest = [] ∨ s.rq.completions.length + settled.length = 16 ∨
      ∃ q rest' c, rest = q :: rest' ∧ issueCheck q.op (s.entryAfter settled q.addr) = .sent c) :
    ∃ t, exec .frameStart s = .next t ∧
      t.rq = { s.rq with
        queue := rest
        completions := s.rq.completions ++ settled.map fun x =>
          { tag := x.1.tag, kind := x.1.op.kind, addr := x.1.addr, outcome := x.2.1, data := none, attempts := 0 } } ∧
      (∀ a : NodeAddr, t.nd[a] = s.entryAfter settled a) ∧
      (rest = [] ∨ s.rq.completions.length + settled.length = 16 →
        ∀ r, t.cx.inFlight = some r → r.source = .keepalive) ∧
      (∀ q rest' c, ¬s.rq.completions.length + settled.length = 16 → rest = q :: rest' →
        issueCheck q.op (s.entryAfter settled q.addr) = .sent c → t.cx.inFlight = some
        { source := .request, target := .node q.addr, cmd := c, attempt := 1, waits := 0
          stage := if (s.entryAfter settled q.addr).resync = true ∧ c ≠ .ping then .resyncPing else .command }) := by
  have freeServed : s.served.cx.inFlight = none := by rw [State.served_cx]; exact free
  have entry (l : List (Request × CplOutcome × Bool)) (a : NodeAddr) : s.served.entryAfter l a = s.entryAfter l a := by
    rw [State.entryAfter, State.entryAfter, State.served_nd]
  have turnsServed : s.served.SettledInTurn settled :=
    State.settledInTurn_of_places fun i q o frees place => by rw [entry]; exact turns i q o frees place
  have field : s.served.settleField = s.served.offerRequests.offerTo State.offerKeepalive :=
    State.settleField_requests freeServed (State.served_ce_idle idle) (by rw [State.served_sv]; exact still)
  have rq := State.settleAll_rq settled s.served
  have nd (a : NodeAddr) := State.settleAll_entry settled s.served a
  have cx : (s.served.settleAll settled).cx.inFlight = none := by
    rw [State.settleAll_cx]
    exact freeServed
  rw [State.served_rq, queue, List.drop_left' (List.length_map _)] at rq
  simp only [entry] at nd
  have offered : s.served.offerRequests = State.issueRequests rest.length (s.served.settleAll settled) := by
    have served : s.served.fe.link = .up := by rw [State.served_fe]; exact up
    have length : s.served.rq.queue.length = settled.length + rest.length := by
      rw [State.served_rq, queue, List.length_append, List.length_map]
    rw [State.offerRequests, if_pos served, length]
    exact State.issueRequests_settled (by rw [State.served_rq]; exact queue) (by rw [State.served_rq]; exact room)
      turnsServed _
  have filled : (s.served.settleAll settled).rq.completions.length = s.rq.completions.length + settled.length := by
    rw [rq, List.length_append, List.length_map]
  have stalled (h : rest = [] ∨ s.rq.completions.length + settled.length = 16) :
      s.served.offerRequests = s.served.settleAll settled := by
    rw [offered]
    rcases h with rfl | full
    · rfl
    · exact State.issueRequests_full (by rw [filled, full]) _
  have sent (q : Request) (rest' : List Request) (c : LinkCommand)
      (short : ¬s.rq.completions.length + settled.length = 16) (e : rest = q :: rest')
      (needs : issueCheck q.op (s.entryAfter settled q.addr) = .sent c) :
      s.served.offerRequests = (s.served.settleAll settled).grant .request (.node q.addr) c := by
    rw [offered, e]
    exact State.issueRequests_sent (by rw [filled]; omega) (by rw [rq]; exact e) (by rw [nd]; exact needs) _
  have left : s.served.offerRequests.rq = (s.served.settleAll settled).rq ∧
      s.served.offerRequests.nd = (s.served.settleAll settled).nd := by
    by_cases h : rest = [] ∨ s.rq.completions.length + settled.length = 16
    · rw [stalled h]
      exact ⟨rfl, rfl⟩
    · obtain ⟨notEmpty, short⟩ := not_or.1 h
      obtain ⟨q, rest', c, e, needs⟩ := (stops.resolve_left notEmpty).resolve_left short
      rw [sent q rest' c short e needs]
      exact ⟨State.grant_rq .., State.grant_nd ..⟩
  refine ⟨_, exec_frameStart_working (.inl up), ?_, fun a => ?_, fun h r granted => ?_, fun q rest' c short e needs => ?_⟩
  · rw [field, State.offerTo_offerKeepalive_rq, left.1, rq]
  · rw [field, State.offerTo_offerKeepalive_nd, left.2, nd]
  · rw [field, stalled h, State.offerTo_free cx] at granted
    exact State.offerKeepalive_source cx granted
  · have granted := State.grant_inFlight (s.served.settleAll settled) .request q.addr c
    rw [nd] at granted
    rw [field, sent q rest' c short e needs, State.offerTo_taken (by rw [granted]; rfl), granted]

/-- Settles O39: the checks kind by kind; one request settled is the list of one. -/
theorem issueTimeChecks : Obligations.IssueTimeChecks := by
  refine ⟨fun e => ?_, fun s q o frees up free idle still queue room check => ?_,
    fun s settled rest up free idle still queue room => ?_⟩
  · intro present
    refine ⟨fun r => ⟨fun h => sentIfPresent_present h _, fun h => sentIfPresent_absent h _⟩,
      fun r d => ⟨fun low => if_pos low, fun high h => ?_, fun high h => ?_⟩,
      fun h => sentIfPresent_present h _, fun h => sentIfPresent_absent h _, fun parked => ?_, fun absent => ?_,
      fun c ready caps => issueCheck_park_ready ready caps, fun ready => ?_, fun parked => ?_, fun absent => ?_,
      fun h => ?_, fun gone => ?_, fun h => ?_⟩
    · exact (if_neg (Nat.not_lt.2 high)).trans (sentIfPresent_present h _)
    · exact (if_neg (Nat.not_lt.2 high)).trans (sentIfPresent_absent h _)
    · simp only [issueCheck, parked]
    · exact (issueCheck_absent absent).1
    · simp only [issueCheck, ready]
    · simp only [issueCheck, parked]
    · exact (issueCheck_absent absent).2
    · rcases h with h | h <;> simp only [issueCheck, h]
    · simp only [issueCheck, gone]
    · rcases h with h | h <;> simp only [issueCheck, h]
  · obtain ⟨t, begun, rq, nd, -, -⟩ := requestsIssued (settled := [(q, o, frees)]) (rest := []) up free idle still queue
      (Nat.succ_le_of_lt room) (fun i q' o' frees' place => by
        obtain ⟨lt, e⟩ := List.getElem?_eq_some_iff.1 place
        obtain rfl : i = 0 := by simpa using lt
        cases e
        exact check) (.inl rfl)
    refine ⟨t, begun, rq, fun a => ?_⟩
    rw [nd, State.entryAfter, List.any_cons, List.any_nil, Bool.or_false]
    simp only [Bool.and_eq_true, decide_eq_true_iff, eq_comm (a := q.addr)]
  · intro entry turns full needs stops
    have whole : settled.take settled.length = settled := List.take_length
    have after (a : NodeAddr) : entry settled.length a = s.entryAfter settled a := by
      change s.entryAfter (settled.take settled.length) a = _
      rw [whole]
    have after' : s.entryAfter settled = entry settled.length := funext fun a => (after a).symm
    have result := requestsIssued up free idle still queue room turns
    rw [after'] at result
    exact result stops

end Sys2Proof.Machine
end

section
/-! PROOFS. The order in which the arbiter grants the command field (chapters 3.2, 4.4, 6.3 to 6.6 and 9.2). -/
namespace Sys2Proof.Machine

/-! ### The staging list -/

/-- A list made place by place from options. -/
theorem flatMap_eq_filterMap {α β : Type} {f : α → List β} {g : α → Option β} (h : ∀ a, f a = (g a).toList) (l : List α) :
    l.flatMap f = l.filterMap g := by
  rw [List.filterMap_eq_flatMap_toList, funext h]

/-- The clears slot number by slot number: a record that goes, or one whose owner, port or direction changes (R100). -/
theorem flatMap_slotClears (old new : SlotTable) :
    slotNumbers.flatMap (slotClears old new) = (List.finRange 32).filterMap fun k => match old[k], new[k] with
      | some r, none => some (clearCmd k r)
      | some r, some r' =>
        if r.owner = r'.owner ∧ r.port = r'.port ∧ r.dir = r'.dir then none else some (clearCmd k r)
      | none, _ => none := by
  refine flatMap_eq_filterMap (fun k => ?_) _
  rw [slotClears]
  cases old[k] with
  | none => rfl
  | some r =>
    cases new[k] with
    | none => rfl
    | some r' => exact (apply_ite Option.toList _ none (some (clearCmd k r))).symm

/-- The sets slot number by slot number: a record that comes or differs (R100). -/
theorem flatMap_slotSets (old new : SlotTable) :
    slotNumbers.flatMap (slotSets old new) = (List.finRange 32).filterMap fun k => match old[k], new[k] with
      | none, some r' => some (setCmd k r')
      | some r, some r' => if r = r' then none else some (setCmd k r')
      | _, none => none := by
  refine flatMap_eq_filterMap (fun k => ?_) _
  rw [slotSets]
  cases old[k] with
  | none => cases new[k] <;> rfl
  | some r =>
    cases new[k] with
    | none => rfl
    | some r' => exact (apply_ite Option.toList _ none (some (setCmd k r'))).symm

/-- Maps that differ give a staging command (R100). -/
theorem stagingList_ne_nil {old new : SlotTable} (differ : new ≠ old) : stagingList old new ≠ [] := by
  obtain ⟨k, at'⟩ : ∃ k : Fin 32, new[k] ≠ old[k] := by
    by_contra same
    exact differ (table_ext fun k => not_not.1 (not_exists.1 same k))
  have listed {c : StagingCmd} (h : c ∈ slotClears old new k ∨ c ∈ slotSets old new k) : stagingList old new ≠ [] := by
    refine List.ne_nil_of_mem (a := c) (List.mem_flatMap.2 ⟨c.target, mem_addresses _, List.mem_append.2 ?_⟩)
    refine h.imp (fun h => ?_) fun h => ?_
    all_goals exact List.mem_filter.2 ⟨List.mem_flatMap.2 ⟨k, mem_slotNumbers k, h⟩, decide_eq_true rfl⟩
  cases before : old[k] with
  | none =>
    cases after : new[k] with
    | none => exact absurd (after.trans before.symm) at'
    | some r' => exact listed (c := setCmd k r') (.inr (by simp only [slotSets, before, after, List.mem_singleton]))
  | some r =>
    cases after : new[k] with
    | none => exact listed (c := clearCmd k r) (.inl (by simp only [slotClears, before, after, List.mem_singleton]))
    | some r' =>
      have records : r ≠ r' := fun same => at' (after.trans ((congrArg some same.symm).trans before.symm))
      exact listed (c := setCmd k r')
        (.inr (by simp only [slotSets, before, after, if_neg records, List.mem_singleton]))

theorem StagingCmd.linkCommand_ne_ping (c : StagingCmd) : c.linkCommand ≠ .ping := by
  unfold StagingCmd.linkCommand
  split <;> nofun

/-! ### The grants -/

/-- A command other than PING is preceded by a resynchronising PING where its target is marked (R48). -/
theorem State.grant_node (s : State) (src : Source) (a : NodeAddr) {c : LinkCommand} (other : c ≠ .ping) :
    (s.grant src (.node a) c).cx.inFlight = some
      { source := src, target := .node a, cmd := c, attempt := 1, waits := 0
        stage := if s.nd[a].resync = true then .resyncPing else .command } := by
  rw [State.grant_inFlight]
  simp only [ne_eq, other, not_false_eq_true, and_true]

theorem State.grant_inFlight_isSome (s : State) (src : Source) (t : Target) (c : LinkCommand) :
    (s.grant src t c).cx.inFlight.isSome = true :=
  rfl

theorem State.grantStaging_cons {s : State} {c : StagingCmd} {rest : List StagingCmd} (list : s.ce.staging = c :: rest) :
    s.grantStaging = s.grant .commit (.node c.target) c.linkCommand := by
  rw [State.grantStaging, list]

theorem State.grantCopy_sent {s : State} (left : s.ce.copies < 3) (c : LinkCommand) :
    s.grantCopy c = s.grant .commit .broadcast c :=
  if_pos left

theorem State.grantCopy_done {s : State} (done : 3 ≤ s.ce.copies) (c : LinkCommand) : s.grantCopy c = s :=
  if_neg (Nat.not_lt.2 done)

/-! ### The Commit Engine's offer -/

theorem State.offerCommit_atPending {s : State} (up : s.fe.link = .up) (pending : s.ce.phase = .pending) :
    s.offerCommit = s.validatePending := by
  rw [State.offerCommit, pending]
  exact if_pos up

theorem State.offerCommit_atStaging {s : State} {c : StagingCmd} {rest : List StagingCmd} (up : s.fe.link = .up)
    (staging : s.ce.phase = .staging) (list : s.ce.staging = c :: rest) :
    s.offerCommit = s.grant .commit (.node c.target) c.linkCommand := by
  rw [State.offerCommit, staging]
  exact (if_pos up).trans (State.grantStaging_cons list)

theorem State.offerCommit_atSwitching {s : State} (switching : s.ce.phase = .switching) :
    s.offerCommit = s.grantCopy .switch := by
  rw [State.offerCommit, switching]

theorem State.offerCommit_atCancelling {s : State} (cancelling : s.ce.phase = .cancelling) :
    s.offerCommit = s.grantCopy .cancel := by
  rw [State.offerCommit, cancelling]

theorem State.validatePending_changed {s : State} {m : SlotTable} (verdict : s.validate = .changed m) :
    s.validatePending = (s.beginStaging m).grantStaging := by
  rw [State.validatePending, verdict]

theorem State.validatePending_unchanged {s : State} (verdict : s.validate = .unchanged) :
    s.validatePending = (s.setCl { s.cl with list := [] }).endAtValidation (.plain .apply .unchanged) := by
  rw [State.validatePending, verdict]

theorem State.validatePending_refusedEmpty {s : State} (verdict : s.validate = .refusedEmpty) :
    s.validatePending = s.endAtValidation (.refusal .apply .empty none none) := by
  rw [State.validatePending, verdict]

theorem State.validatePending_refusedSlotNumber {s : State} {i : Nat} (verdict : s.validate = .refusedSlotNumber i) :
    s.validatePending = s.endAtValidation (.refusal .apply .slotNumber (some i) none) := by
  rw [State.validatePending, verdict]

theorem State.validatePending_refusedCheck {s : State} {reason : Reason} {k : Fin 32}
    (verdict : s.validate = .refusedCheck reason k) :
    s.validatePending = s.endAtValidation (.refusal .apply reason none (some k)) := by
  rw [State.validatePending, verdict]

/-- The Commit Engine has nothing to send: no commit, one that ends at its validation, or one whose copies are sent. -/
def State.CommitDeclines (s : State) : Prop :=
  s.ce.phase = .idle ∨ (s.ce.phase = .pending ∧ ∀ m, s.validate ≠ .changed m) ∨ (s.ce.phase = .switching ∧ 3 ≤ s.ce.copies)

theorem State.validatePending_cx {s : State} (ends : ∀ m, s.validate ≠ .changed m) : s.validatePending.cx = s.cx := by
  unfold State.validatePending
  split
  next m verdict => exact absurd verdict (ends m)
  all_goals simp

theorem State.CommitDeclines.offerCommit_cx {s : State} (h : s.CommitDeclines) : s.offerCommit.cx = s.cx := by
  rcases h with idle | ⟨pending, ends⟩ | ⟨switching, done⟩
  · rw [State.offerCommit_idle idle]
  · rw [State.offerCommit, pending]
    dsimp only
    split
    · exact State.validatePending_cx ends
    · rfl
  · rw [State.offerCommit_atSwitching switching, State.grantCopy_done done]

/-! ### The sources after the Commit Engine -/

/-- The Commit Engine having declined, the field goes on to the survey, the requests and keepalive (R38). -/
theorem State.settleField_declined {s : State} (free : s.cx.inFlight = none) (declines : s.CommitDeclines) :
    s.settleField = (s.offerCommit.offerSurvey.offerTo State.offerRequests).offerTo State.offerKeepalive := by
  have still : s.offerCommit.cx.inFlight = none := by rw [declines.offerCommit_cx]; exact free
  rw [State.settleField, State.offerTo_free free, State.offerTo_free still]

theorem State.offerSurvey_sent {s : State} {t : Target} {c : LinkCommand} (up : s.fe.link = .up)
    (next : s.sv.nextCommand = some (t, c)) : s.offerSurvey = s.grant .survey t c := by
  rw [State.offerSurvey, if_pos up, next]

/-- The survey's command goes out before any request (R38, R70). -/
theorem State.settleField_surveyed {s : State} {t : Target} {c : LinkCommand} (free : s.cx.inFlight = none)
    (declines : s.CommitDeclines) (up : s.fe.link = .up) (next : s.sv.nextCommand = some (t, c)) :
    s.settleField.cx.inFlight = (s.grant .survey t c).cx.inFlight := by
  have sent : s.offerCommit.offerSurvey = s.offerCommit.grant .survey t c :=
    State.offerSurvey_sent (by rw [State.offerCommit_fe]; exact up) (by rw [State.offerCommit_sv]; exact next)
  have taken : s.offerCommit.offerSurvey.cx.inFlight.isSome = true := by
    rw [sent]
    exact State.grant_inFlight_isSome _ _ _ _
  rw [State.settleField_declined free declines, State.offerTo_taken taken, State.offerTo_taken taken, sent]
  cases t with
  | node a => rw [State.grant_inFlight, State.grant_inFlight, State.offerCommit_nd]
  | unbound => rfl
  | broadcast => rfl

/-- With no survey running the head request that needs traffic goes out (R38, R145). -/
theorem State.settleField_requested {s : State} {q : Request} {rest : List Request} {c : LinkCommand}
    (free : s.cx.inFlight = none) (declines : s.CommitDeclines) (up : s.fe.link = .up)
    (still : s.sv.state.isRunning = false) (queue : s.rq.queue = q :: rest) (room : s.rq.completions.length < 16)
    (check : issueCheck q.op s.nd[q.addr] = .sent c) :
    s.settleField.cx.inFlight = (s.grant .request (.node q.addr) c).cx.inFlight := by
  have freeStill : s.offerCommit.cx.inFlight = none := by rw [declines.offerCommit_cx]; exact free
  have sent : s.offerCommit.offerRequests = s.offerCommit.grant .request (.node q.addr) c := by
    have upStill : s.offerCommit.fe.link = .up := by rw [State.offerCommit_fe]; exact up
    rw [State.offerRequests, if_pos upStill]
    simp only [State.offerCommit_rq, queue, List.length_cons]
    exact State.issueRequests_sent (by rw [State.offerCommit_rq]; exact room) (by rw [State.offerCommit_rq]; exact queue)
      (by rw [State.offerCommit_nd]; exact check) _
  have declined : s.offerCommit.offerSurvey = s.offerCommit :=
    State.offerSurvey_idle (by rw [State.offerCommit_sv]; exact still)
  rw [State.settleField_declined free declines, declined, State.offerTo_free freeStill, sent,
    State.offerTo_taken (State.grant_inFlight_isSome _ _ _ _), State.grant_inFlight, State.grant_inFlight,
    State.offerCommit_nd]

/-- With nothing to send the frame carries IDLE (R37). -/
theorem State.settleField_nothing {s : State} (free : s.cx.inFlight = none) (declines : s.CommitDeclines)
    (nothing : s.fe.link ≠ .up ∨ (s.sv.state.isRunning = false ∧ s.rq.queue = [] ∧ s.cx.cfg.interval = 0)) :
    s.settleField.cx.inFlight = none := by
  have freeStill : s.offerCommit.cx.inFlight = none := by rw [declines.offerCommit_cx]; exact free
  have survey : s.offerCommit.offerSurvey = s.offerCommit := by
    rcases nothing with notUp | ⟨still, -, -⟩
    · exact if_neg (by rw [State.offerCommit_fe]; exact notUp)
    · exact State.offerSurvey_idle (by rw [State.offerCommit_sv]; exact still)
  have requests : s.offerCommit.offerRequests = s.offerCommit := by
    rcases nothing with notUp | ⟨-, empty, -⟩
    · exact if_neg (by rw [State.offerCommit_fe]; exact notUp)
    · exact State.offerRequests_empty (by rw [State.offerCommit_rq]; exact empty)
  have keepalive : s.offerCommit.offerKeepalive = s.offerCommit := by
    refine if_neg fun ⟨up, on⟩ => ?_
    rw [State.offerCommit_fe] at up
    rw [declines.offerCommit_cx] at on
    rcases nothing with notUp | ⟨-, -, off⟩
    · exact notUp up
    · exact on off
  rw [State.settleField_declined free declines, survey, State.offerTo_free freeStill, requests,
    State.offerTo_free freeStill, keepalive]
  exact freeStill

/-! ### The frame start -/

theorem State.served_undue {s : State} (undue : ¬(s.ce.phase = .switching ∧ s.ce.switchFrame = some (s.fe.frameNo + 1))) :
    s.served.ce = s.ce ∧ s.served.cl = s.cl := by
  have formed : s.nextFrame.formMap = s.nextFrame.setSm s.nextFrame.formedSlotMap :=
    if_neg (mt s.nextFrame_switchDue_iff.1 undue)
  rw [State.served_ce, State.served_cl, formed]
  exact ⟨rfl, rfl⟩

theorem State.served_due {s : State} (due : s.ce.phase = .switching ∧ s.ce.switchFrame = some (s.fe.frameNo + 1)) :
    s.served.ce.phase = .idle := by
  rw [State.served_ce, State.formMap_due (s.nextFrame_switchDue_iff.2 due)]
  rfl

/-- The verdict of the offer, said of the state after the frame start: only the list is the one before it (R99). -/
theorem State.served_validate {s : State} (list : s.served.cl = s.cl) :
    s.served.validate = Machine.validate s.cl.list s.served.settleField.sm.active s.fe.cfg.frameLength s.nd
      s.served.settleField.su.streams := by
  rw [State.settleField_sm, State.settleField_su, State.validate, list, State.served_nd, State.served_fe]

theorem State.served_declines {s : State} (declines : s.ce.phase = .idle ∨
      (s.ce.phase = .pending ∧ ∀ m, Machine.validate s.cl.list s.served.settleField.sm.active s.fe.cfg.frameLength s.nd
        s.served.settleField.su.streams ≠ .changed m) ∨
      (s.ce.phase = .switching ∧ 3 ≤ s.ce.copies)) : s.served.CommitDeclines := by
  rcases declines with idle | ⟨pending, ends⟩ | ⟨switching, done⟩
  · exact .inl (State.served_ce_idle idle)
  · obtain ⟨ce, cl⟩ := State.served_undue (s := s) fun due => nomatch pending.symm.trans due.1
    refine .inr (.inl ⟨by rw [ce]; exact pending, ?_⟩)
    rw [State.served_validate cl]
    exact ends
  · by_cases due : s.ce.switchFrame = some (s.fe.frameNo + 1)
    · exact .inl (State.served_due ⟨switching, due⟩)
    · obtain ⟨ce, -⟩ := State.served_undue (s := s) fun both => due both.2
      exact .inr (.inr ⟨by rw [ce]; exact switching, by rw [ce]; exact done⟩)

/-- A commit that ends at its validation in the offer: the record, the phase and COMMIT_DONE (R99). -/
theorem State.settleField_ended {s v : State} {r : CommitResult} (free : s.cx.inFlight = none)
    (offered : s.offerCommit = v.endAtValidation r) :
    s.settleField.ce = { v.ce with phase := .idle, result := r } ∧ s.settleField.eu.sticky.getLsbD 7 = true ∧
    s.settleField.cl = v.cl := by
  obtain ⟨ce, cl, eu⟩ := s.settleField_commitPart
  rw [State.offerTo_free free, offered] at ce cl eu
  rw [ce, cl, eu]
  refine ⟨rfl, ?_, rfl⟩
  rw [State.endAtValidation, State.raise_sticky _ _ (by omega)]
  exact Bool.or_true _

/-- A grant of the Commit Engine settles the field (R38). -/
theorem State.settleField_granted {s v : State} {t : Target} {c : LinkCommand} (free : s.cx.inFlight = none)
    (offered : s.offerCommit = v.grant .commit t c) : s.settleField = v.grant .commit t c := by
  rw [State.settleField_commit free (by rw [offered]; rfl), offered]

/-- A PENDING commit whose map changes begins staging, and its first command is granted (R99, R101). -/
theorem State.settleField_changed {s : State} {m : SlotTable} (free : s.cx.inFlight = none)
    (offered : s.offerCommit = s.validatePending) (verdict : s.validate = .changed m) :
    ∃ c rest, stagingList s.sm.active m = c :: rest ∧
      s.settleField = (s.beginStaging m).grant .commit (.node c.target) c.linkCommand := by
  obtain ⟨-, -, -, differ⟩ := validate_changed verdict
  obtain ⟨c, rest, list⟩ := List.exists_cons_of_ne_nil (stagingList_ne_nil differ)
  exact ⟨c, rest, list, State.settleField_granted free
    (offered.trans ((State.validatePending_changed verdict).trans (State.grantStaging_cons list)))⟩

/-- Settles O37: the Commit Engine's offer by phase and verdict, then the sources after it in their order. -/
theorem arbiterGrantsInOrder : Obligations.ArbiterGrantsInOrder := by
  refine ⟨fun s working => ?_, fun c => ⟨fun clear => ?_, fun w st set => ?_⟩⟩
  · refine ⟨_, exec_frameStart_working working, fun r held => ?_, fun free => ?_⟩
    · have busy : s.served.cx.inFlight = some r := by rw [State.served_cx]; exact held
      rw [State.settleField_inFlight (by rw [busy]; rfl), busy]
    have freeServed : s.served.cx.inFlight = none := by rw [State.served_cx]; exact free
    have upServed (up : s.fe.link = .up) : s.served.fe.link = .up := by rw [State.served_fe]; exact up
    have stillServed (still : s.sv.state.isRunning = false) : s.served.sv.state.isRunning = false := by
      rw [State.served_sv]; exact still
    intro verdict declines
    have off : declines → s.served.CommitDeclines := State.served_declines
    refine ⟨fun up pending => ?_, fun c rest up staging list => ?_, fun switching left notYet => ?_,
      fun cancelling left => ?_, fun up declined seeking => ?_, fun b up declined elected binding => ?_,
      fun b up declined binding bound => ?_, fun q rest c up declined still queue room check => ?_,
      fun declined nothing => ?_⟩
    · obtain ⟨ce, cl⟩ := State.served_undue (s := s) fun due => nomatch pending.symm.trans due.1
      have judged : s.served.validate = verdict := State.served_validate cl
      have offered : s.served.offerCommit = s.served.validatePending :=
        State.offerCommit_atPending (upServed up) (by rw [ce]; exact pending)
      intro record ended
      have ends {v : State} {r : CommitResult} (e : s.served.validatePending = v.endAtValidation r) (same : v.ce = s.ce) :
          ended r ∧ s.served.settleField.cl = v.cl := by
        obtain ⟨endedCe, raised, endedCl⟩ := State.settleField_ended freeServed (offered.trans e)
        rw [same] at endedCe
        exact ⟨⟨endedCe, raised⟩, endedCl⟩
      refine ⟨fun refused => ?_, fun i refused => ?_, fun reason k refused => ?_, fun unchanged => ?_, fun m changed => ?_⟩
      · obtain ⟨done, kept⟩ := ends (State.validatePending_refusedEmpty (judged.trans refused)) ce
        exact ⟨done, kept.trans cl⟩
      · obtain ⟨done, kept⟩ := ends (State.validatePending_refusedSlotNumber (judged.trans refused)) ce
        exact ⟨done, kept.trans cl⟩
      · obtain ⟨done, kept⟩ := ends (State.validatePending_refusedCheck (judged.trans refused)) ce
        exact ⟨done, kept.trans cl⟩
      · obtain ⟨done, emptied⟩ := ends (State.validatePending_unchanged (judged.trans unchanged)) ce
        refine ⟨done, emptied.trans ?_⟩
        rw [← cl]
        rfl
      · intro clear set clears sets
        obtain ⟨c, rest, list, granted⟩ := State.settleField_changed freeServed offered (judged.trans changed)
        have clears_eq : slotNumbers.flatMap (slotClears s.served.sm.active m) = clears := by
          rw [← State.settleField_sm]
          exact flatMap_slotClears _ m
        have sets_eq : slotNumbers.flatMap (slotSets s.served.sm.active m) = sets := by
          rw [← State.settleField_sm]
          exact flatMap_slotSets _ m
        have staged : s.served.settleField.ce = { s.ce with
            phase := .staging, pending := some m, staging := stagingList s.served.sm.active m } := by
          rw [granted, State.grant_ce, State.beginStaging, State.setCe_ce, ce]
        refine ⟨?_, ?_, c, rest, ?_, ?_⟩
        · rw [granted, State.grant_cl, State.beginStaging_cl, cl]
        · rw [staged, stagingList, clears_eq, sets_eq]
          rfl
        · rw [staged]
          exact list
        · rw [granted, State.grant_node _ _ _ c.linkCommand_ne_ping, State.beginStaging_nd, State.served_nd]
    · obtain ⟨ce, -⟩ := State.served_undue (s := s) fun due => nomatch staging.symm.trans due.1
      rw [State.settleField_granted freeServed
        (State.offerCommit_atStaging (upServed up) (by rw [ce]; exact staging) (by rw [ce]; exact list)),
        State.grant_node _ _ _ c.linkCommand_ne_ping, State.served_nd]
    · obtain ⟨ce, -⟩ := State.served_undue (s := s) fun due => notYet due.2
      rw [State.settleField_granted freeServed ((State.offerCommit_atSwitching (by rw [ce]; exact switching)).trans
        (State.grantCopy_sent (by rw [ce]; exact left) _))]
      rfl
    · obtain ⟨ce, -⟩ := State.served_undue (s := s) fun due => nomatch cancelling.symm.trans due.1
      rw [State.settleField_granted freeServed ((State.offerCommit_atCancelling (by rw [ce]; exact cancelling)).trans
        (State.grantCopy_sent (by rw [ce]; exact left) _))]
      rfl
    · rw [State.settleField_surveyed freeServed (off declined) (upServed up) (t := .unbound) (c := .identify)
        (by rw [State.served_sv, Survey.nextCommand, seeking])]
      rfl
    · rw [State.settleField_surveyed freeServed (off declined) (upServed up) (t := .unbound) (c := .assign b.target)
        (by rw [State.served_sv, Survey.nextCommand, elected, binding])]
      rfl
    · have next : s.sv.nextCommand = some (.node b.target, .read (if b.capA = none then 0x00 else 0x01)) := by
        rw [Survey.nextCommand, binding, bound]
        cases capA : b.capA with
        | none => simp only [capA, if_true]
        | some a => simp only [capA]; rw [if_neg (by nofun)]
      rw [State.settleField_surveyed freeServed (off declined) (upServed up) (by rw [State.served_sv]; exact next),
        State.grant_node _ _ _ (by nofun), State.served_nd]
    · rw [State.settleField_requested freeServed (off declined) (upServed up) (stillServed still)
        (by rw [State.served_rq]; exact queue) (by rw [State.served_rq]; exact room) (by rw [State.served_nd]; exact check),
        State.grant_inFlight, State.served_nd]
    · refine State.settleField_nothing freeServed (off declined) ?_
      rcases nothing with ⟨draining, -⟩ | ⟨-, still, empty, interval⟩
      · exact .inl (by rw [State.served_fe]; exact fun up => nomatch draining.symm.trans up)
      · exact .inr ⟨stillServed still, by rw [State.served_rq]; exact empty, by rw [State.served_cx]; exact interval⟩
  · rw [StagingCmd.linkCommand, clear]
  · rw [StagingCmd.linkCommand, set]

end Sys2Proof.Machine
end

section
/-! PROOFS. What each source makes of an outcome handed to it (chapters 4.2, 4.4, 6.4, 6.8 and 9.3). -/
namespace Sys2Proof.Machine

/-- The state with no command in progress, as the hand-over leaves it to the source (R41). -/
def State.released (s : State) : State := s.setCx { s.cx with inFlight := none }

theorem State.handOver_keepalive {s : State} {r : InFlight} (source : r.source = .keepalive) (o : CmdOutcome)
    (d : BitVec 16) : s.handOver r o d = s.released := by
  rw [State.handOver, source]
  rfl

theorem State.handOver_commit {s : State} {r : InFlight} (source : r.source = .commit) (o : CmdOutcome) (d : BitVec 16) :
    s.handOver r o d = s.released.commitOutcome r.target o := by
  rw [State.handOver, source]
  rfl

theorem State.handOver_survey {s : State} {r : InFlight} (source : r.source = .survey) (o : CmdOutcome) (d : BitVec 16) :
    s.handOver r o d = s.released.surveyOutcome r o d := by
  rw [State.handOver, source]
  rfl

theorem State.handOver_request {s : State} {r : InFlight} (source : r.source = .request) (o : CmdOutcome) (d : BitVec 16) :
    s.handOver r o d = s.released.requestOutcome o d r.attempt := by
  rw [State.handOver, source]
  rfl

/-! ### The Request Queue -/

/-- The directory a request's outcome leaves (R63, R64, R147). -/
def movedDirectory (nd : Directory) (q : Request) (o : CmdOutcome) : Directory :=
  match q.op with
  | .park => if o = .ack then upd nd q.addr { nd[q.addr] with state := .parked } else nd
  | .resume => if o = .ack then upd nd q.addr { nd[q.addr] with state := .ready } else nd
  | .release => upd nd q.addr Entry.freeEntry
  | _ => nd

theorem State.moveEntry_eq (s : State) (q : Request) (o : CmdOutcome) :
    s.moveEntry q o = s.setNd (movedDirectory s.nd q o) := by
  unfold State.moveEntry movedDirectory
  cases q.op with
  | park | resume => dsimp only; split <;> rfl
  | release => rfl
  | nodeRead | nodeWrite | ping => rfl

theorem movedDirectory_other (nd : Directory) {q : Request} (o : CmdOutcome) {b : NodeAddr} (other : b ≠ q.addr) :
    (movedDirectory nd q o)[b] = nd[b] := by
  unfold movedDirectory
  cases q.op with
  | park | resume =>
    dsimp only
    split
    · exact upd_ne nd other.symm _
    · rfl
  | release => exact upd_ne nd other.symm _
  | nodeRead | nodeWrite | ping => rfl

theorem movedDirectory_release (nd : Directory) {q : Request} (o : CmdOutcome) (release : q.op = .release) :
    (movedDirectory nd q o)[q.addr] = Entry.freeEntry := by
  rw [movedDirectory, release]
  exact upd_self nd _ _

theorem movedDirectory_park (nd : Directory) {q : Request} {o : CmdOutcome} (park : q.op = .park) (ack : o = .ack) :
    (movedDirectory nd q o)[q.addr] = { nd[q.addr] with state := .parked } := by
  rw [movedDirectory, park]
  dsimp only
  rw [if_pos ack, upd_self]

theorem movedDirectory_resume (nd : Directory) {q : Request} {o : CmdOutcome} (resume : q.op = .resume) (ack : o = .ack) :
    (movedDirectory nd q o)[q.addr] = { nd[q.addr] with state := .ready } := by
  rw [movedDirectory, resume]
  dsimp only
  rw [if_pos ack, upd_self]

theorem movedDirectory_still (nd : Directory) {q : Request} {o : CmdOutcome} (release : q.op ≠ .release)
    (stays : o ≠ .ack ∨ (q.op ≠ .park ∧ q.op ≠ .resume)) : movedDirectory nd q o = nd := by
  unfold movedDirectory
  split
  next park => exact if_neg (stays.resolve_right fun both => both.1 park)
  next resume => exact if_neg (stays.resolve_right fun both => both.2 resume)
  next released => exact absurd released release
  next => rfl

/-- The outcome of a request's command, whole (R147). -/
theorem State.requestOutcome_cons {s : State} {q : Request} {rest : List Request} (queue : s.rq.queue = q :: rest)
    (o : CmdOutcome) (d : BitVec 16) (attempts : Nat) :
    s.requestOutcome o d attempts = { s with
      nd := movedDirectory s.nd q o
      rq := { s.rq with
        queue := rest
        completions := s.rq.completions ++
          [{ tag := q.tag, kind := q.op.kind, addr := q.addr, outcome := o.completion
             data := completionData q.op.kind o d, attempts := attempts }] } } := by
  rw [State.requestOutcome, queue]
  change (s.moveEntry q o).complete q _ _ _ = _
  rw [State.moveEntry_eq, State.complete, State.setNd_rq, queue]
  rfl

theorem completionData_eq (k : ReqKind) (o : CmdOutcome) (d : BitVec 16) :
    completionData k o d = if o = .refuse ∨ (o = .ack ∧ (k = .nodeRead ∨ k = .ping)) then some d else none := by
  cases o with
  | ack => cases k <;> rfl
  | refuse | noAnswer | timeout => rfl

/-- Settles O47: the completion by the request's outcome, the entry by the directory it leaves. -/
theorem outcomeCompletesRequest : Obligations.OutcomeCompletesRequest := by
  intro s r o d
  refine ⟨fun keepalive => State.handOver_keepalive keepalive o d, fun q rest request queue room => ?_⟩
  have whole := (State.handOver_request request o d).trans (State.requestOutcome_cons (s := s.released) queue o d r.attempt)
  refine ⟨_, rfl, ?_⟩
  rw [whole]
  refine ⟨rfl, ?_, fun b other => movedDirectory_other _ o other, fun release => movedDirectory_release _ o release,
    fun park ack => movedDirectory_park _ park ack, fun resume ack => movedDirectory_resume _ resume ack,
    fun release stays => congrArg (fun nd : Directory => nd[q.addr]) (movedDirectory_still _ release stays)⟩
  dsimp only
  rw [completionData_eq]
  cases o <;> rfl

/-! ### The Commit Engine -/

theorem State.commitOutcome_draining {s : State} (draining : s.fe.link = .draining) (t : Target) (o : CmdOutcome) :
    s.commitOutcome t o = s.abortLinkStop (if o = .ack then s.ce.acked + 1 else s.ce.acked) :=
  if_pos draining

theorem State.commitOutcome_ack {s : State} (up : s.fe.link = .up) (t : Target) :
    s.commitOutcome t .ack = s.stagingAck := by
  refine (if_neg fun draining => ?_).trans ?_
  · exact nomatch up.symm.trans draining
  · rfl

theorem State.commitOutcome_failed {s : State} (up : s.fe.link = .up) (a : NodeAddr) {o : CmdOutcome} (failed : o ≠ .ack) :
    s.commitOutcome (.node a) o = s.stagingFailed a o := by
  refine (if_neg fun draining => ?_).trans ?_
  · exact nomatch up.symm.trans draining
  · cases o with
    | ack => exact absurd rfl failed
    | refuse | noAnswer | timeout => rfl

/-- Settles O48: the outcome in UP by its kind and the length of the staging list, in DRAINING the abort. -/
theorem outcomeMovesCommit : Obligations.OutcomeMovesCommit := by
  intro s r a o d source target cx' aborted
  have handed := State.handOver_commit (s := s) source o d
  rw [target] at handed
  refine ⟨fun c c' rest up ack list => ?_, fun c up ack list => ?_, fun up failed => ?_, fun draining => ?_⟩
  · subst ack
    rw [handed, State.commitOutcome_ack (s := s.released) up, State.stagingAck]
    have tail : s.released.ce.staging.tail = c' :: rest := congrArg List.tail list
    rw [tail]
    rfl
  · subst ack
    rw [handed, State.commitOutcome_ack (s := s.released) up, State.stagingAck]
    have tail : s.released.ce.staging.tail = [] := congrArg List.tail list
    rw [tail]
    rfl
  · rw [handed, State.commitOutcome_failed (s := s.released) up a failed]
    cases o with
    | ack => exact absurd rfl failed
    | refuse | noAnswer | timeout => rfl
  · rw [handed, State.commitOutcome_draining (s := s.released) draining]
    rfl

/-! ### The capability reads -/

theorem State.surveyOutcome_read {r : InFlight} {reg : BitVec 8} {a : NodeAddr} (cmd : r.cmd = .read reg)
    (target : r.target = .node a) (s : State) (o : CmdOutcome) (d : BitVec 16) :
    s.surveyOutcome r o d =
      if o = .ack then if reg = 0x00 then s.holdCapA d else s.makeReady a d else s.bindingFailed a := by
  rw [State.surveyOutcome, cmd, target]

/-- Settles O51: the outcome of the READ by its kind and its register, the join by the binding's kind. -/
theorem capabilityReadsConclude : Obligations.CapabilityReadsConclude := by
  intro s r b reg o d source target cmd binding cx' e
  have handed := (State.handOver_survey (s := s) source o d).trans (State.surveyOutcome_read cmd target s.released o d)
  have bound : s.released.sv.binding = some b := binding
  refine ⟨fun ack first => ?_, fun v ack second capA => ?_, fun failed => ?_⟩
  · rw [handed, if_pos ack, if_pos first, State.holdCapA, bound]
    rfl
  · have notFirst : ¬reg = 0x00 := by
      rw [second]
      decide
    rw [if_pos ack, if_neg notFirst, State.makeReady, bound] at handed
    refine ⟨satInc (if b.rejoin = true then s.sv.result.rejoined else s.sv.result.joined), satInc_toNat _, ?_⟩
    rw [handed]
    cases rejoin : b.rejoin with
    | true =>
      simp only [rejoin, capA]
      rfl
    | false =>
      simp only [rejoin, capA]
      rfl
  · rw [if_neg failed, State.bindingFailed] at handed
    refine ⟨satInc s.sv.result.failed, satInc_toNat _, fun lost => ?_, fun present => ?_⟩
    · have stays : s.released.loseBinding b.target = s.released := if_pos lost
      rw [handed, stays]
      rfl
    · have lost : s.released.loseBinding b.target = (s.released.setEntryState b.target .lost).raise .nodeLost :=
        if_neg present
      rw [handed, lost]
      rfl

end Sys2Proof.Machine
end

section
/-! PROOFS. The response arrival: the attempt goes on or ends, the identity elects, the ASSIGN binds or fails (chapters
3.4 to 3.6, 4.2 and 4.4). -/
namespace Sys2Proof.Machine

/-! ### The arrival -/

/-- The state with the response field of its frame taken. -/
def State.answered (s : State) : State := s.setFe { s.fe with pos := .answered }

theorem State.respond_sent {s : State} (sent : s.fe.pos = .sent) (f : BitVec 32) :
    s.respond f = s.answered.applyResponse f := by
  have placed : ¬s.fe.before .sent = true := by
    unfold FrameEngine.before
    rw [sent]
    exact fun h => nomatch of_decide_eq_true (Bool.and_eq_true_iff.1 h).2
  have kept : s.fieldSent = s := if_neg placed
  rw [State.respond, kept]
  rfl

theorem FrameEngine.before_answered {fe : FrameEngine} (running : fe.running = true) (sent : fe.pos = .sent) :
    fe.before .answered = true := by
  rw [FrameEngine.before, running, sent]
  rfl

theorem exec_responseArrival_sent {s : State} (running : s.fe.running = true) (sent : s.fe.pos = .sent) (f : BitVec 32) :
    exec (.responseArrival f) s = .next (s.answered.applyResponse f) :=
  congrArg Host.Outcome.next ((if_pos (FrameEngine.before_answered running sent)).trans (State.respond_sent sent f))

/-- A command whose response is judged: every one but a broadcast and the IDENTIFY (R7, R14). -/
def InFlight.Judged (r : InFlight) : Prop := r.target ≠ .broadcast ∧ (r.target = .unbound → r.sending ≠ .identify)

theorem InFlight.judged_of_node {r : InFlight} {a : NodeAddr} (target : r.target = .node a) : r.Judged := by
  unfold InFlight.Judged
  rw [target]
  exact ⟨nofun, nofun⟩

theorem State.applyResponse_judged {s : State} {r : InFlight} (held : s.cx.inFlight = some r) (judged : r.Judged)
    (f : BitVec 32) : s.applyResponse f =
      (s.noteResponse r (s.judgeFor r f)).applyResult r (s.attemptResult r (s.judgeFor r f)) := by
  obtain ⟨addressed, notIdentify⟩ := judged
  rw [State.applyResponse, held]
  dsimp only
  split
  next target => exact absurd target addressed
  next target sending => exact absurd sending (notIdentify target)
  next => rfl

theorem State.expectedResult_judged {s : State} {r : InFlight} (held : s.cx.inFlight = some r) (judged : r.Judged)
    (f : BitVec 32) : s.expectedResult f = some (s.attemptResult r (s.judgeFor r f)) := by
  obtain ⟨addressed, notIdentify⟩ := judged
  rw [State.expectedResult, held]
  dsimp only
  split
  next target => exact absurd target addressed
  next target sending => exact absurd sending (notIdentify target)
  next => rfl

/-- A row that names a case of the response is the response's arrival where the case is the one that arrives. -/
theorem State.respondIf_of_result {s : State} {r : InFlight} (running : s.fe.running = true) (sent : s.fe.pos = .sent)
    (held : s.cx.inFlight = some r) (judged : r.Judged) {f : BitVec 32} {p : AttemptResult → Bool}
    (named : p (s.attemptResult r (s.judgeFor r f)) = true) : s.respondIf f p = s.answered.applyResponse f := by
  rw [State.respondIf, State.expectedResult_judged held judged]
  exact (if_pos ⟨named, FrameEngine.before_answered running sent⟩).trans (State.respond_sent sent f)

/-- What the response to a judged command does, the result of the attempt known. -/
theorem State.answered_applyResponse {s : State} {r : InFlight} (held : s.cx.inFlight = some r) (judged : r.Judged)
    {f : BitVec 32} {j : Judgement} {result : AttemptResult} (verdict : s.judgeFor r f = j)
    (leads : s.attemptResult r j = result) :
    s.answered.applyResponse f = (s.answered.noteResponse r j).applyResult r result := by
  subst verdict leads
  exact State.applyResponse_judged (s := s.answered) held judged f

/-! ### The result of an attempt -/

theorem XchgCfg.waitResult_repeat {c : XchgCfg} {r : InFlight} (left : r.waits < c.wait.toNat) :
    c.waitResult r = .waitRepeat :=
  if_neg (Nat.not_lt.2 left)

theorem XchgCfg.waitResult_limit {c : XchgCfg} {r : InFlight} (spent : c.wait.toNat ≤ r.waits) :
    c.waitResult r = .waitLimit :=
  if_pos (Nat.lt_succ_of_le spent)

theorem XchgCfg.failResult_retry {c : XchgCfg} {r : InFlight} (left : r.attempt ≤ c.retry.toNat) :
    c.failResult r = .retry :=
  if_pos left

theorem XchgCfg.failResult_spent {c : XchgCfg} {r : InFlight} (spent : c.retry.toNat < r.attempt) :
    c.failResult r = .retriesSpent :=
  if_neg (Nat.not_le.2 spent)

theorem State.missReachesLimit_node {s : State} {a : NodeAddr} :
    s.missReachesLimit (.node a) = true ↔ s.cx.cfg.loss.toNat ≤ s.nd[a].miss + 1 :=
  decide_eq_true_iff

theorem State.attemptResult_missed {s : State} {r : InFlight} {a : NodeAddr} (target : r.target = .node a)
    (short : s.nd[a].miss + 1 < s.cx.cfg.loss.toNat) : s.attemptResult r .noAnswer = s.cx.cfg.failResult r := by
  refine if_neg ?_
  rw [target, State.missReachesLimit_node]
  exact Nat.not_le.2 short

theorem State.attemptResult_lossLimit {s : State} {r : InFlight} {a : NodeAddr} (target : r.target = .node a)
    (reached : s.cx.cfg.loss.toNat ≤ s.nd[a].miss + 1) : s.attemptResult r .noAnswer = .lossLimit := by
  refine if_pos ?_
  rw [target, State.missReachesLimit_node]
  exact reached

/-! ### The entry -/

theorem upd_upd {α : Type} {n : Nat} (v : Vector α n) (i : Fin n) (x y : α) : upd (upd v i x) i y = upd v i y :=
  table_ext fun j => by
    rw [upd_get, upd_get, upd_get]
    split <;> rfl

theorem upd_same {α : Type} {n : Nat} (v : Vector α n) (i : Fin n) : upd v i v[i] = v :=
  table_ext fun j => by
    rw [upd_get]
    split
    next same => rw [same]
    next => rfl

/-- The entry a judgement leaves at a node (R41, R45, R47, R50). -/
theorem State.noteResponse_node {s : State} {r : InFlight} {a : NodeAddr} (target : r.target = .node a) {j : Judgement}
    (read : j ≠ .garbled) :
    s.noteResponse r j = s.setNd (upd s.nd a
      (s.nd[a].afterResponse j (decide (r.sending = .ping)) s.fe.frameNo s.cx.cfg.loss)) := by
  rw [State.noteResponse, if_neg read, target]
  rfl

/-- A garble leaves the entry and is counted (R44). -/
theorem State.noteResponse_garbled (s : State) (r : InFlight) :
    s.noteResponse r .garbled = s.setCx { s.cx with garble := satInc s.cx.garble } := by
  rw [State.noteResponse, if_pos rfl]
  cases r.target with
  | node a =>
    change (s.setNd (upd s.nd a s.nd[a])).countGarble = _
    rw [upd_same]
    rfl
  | unbound => rfl
  | broadcast => rfl

/-- No directory entry answers for the target 0 (R53). -/
theorem State.noteResponse_unbound {s : State} {r : InFlight} (target : r.target = .unbound) {j : Judgement}
    (read : j ≠ .garbled) : s.noteResponse r j = s := by
  rw [State.noteResponse, if_neg read, target]
  rfl

theorem State.markResync_node (s : State) (a : NodeAddr) :
    s.markResync (.node a) = s.setNd (upd s.nd a { s.nd[a] with resync := true }) :=
  rfl

theorem State.concludeStage_handOver {s : State} {r : InFlight} {o : CmdOutcome}
    (ends : ¬(r.stage = .resyncPing ∧ o = .ack)) (d : BitVec 16) : s.concludeStage r o d = s.handOver r o d :=
  if_neg ends

/-! ### The attempt goes on -/

theorem State.applyResponse_none {s : State} (free : s.cx.inFlight = none) (f : BitVec 32) :
    s.applyResponse f = s.unsolicited f := by
  rw [State.applyResponse, free]

theorem InFlight.sending_resync {r : InFlight} (stage : r.stage = .resyncPing) : r.sending = .ping := by
  rw [InFlight.sending, stage]

theorem InFlight.sending_command {r : InFlight} (stage : r.stage = .command) : r.sending = r.cmd := by
  rw [InFlight.sending, stage]

/-- Settles O45: the result of the attempt by its judgement, with the entry the judgement leaves. -/
theorem attemptGoesOn : Obligations.AttemptGoesOn := by
  intro s f running sent answered
  have begun := exec_responseArrival_sent running sent f
  refine ⟨fun r a held target => ?_, fun free allOnes => ?_, fun free notOnes => ?_⟩
  · have judged := InFlight.judged_of_node target
    intro e
    rw [begun]
    refine ⟨fun verdict left => ?_, fun verdict short left => ?_, fun verdict left => ?_, fun d stage verdict => ?_⟩
    · have leads : s.attemptResult r .wait = .waitRepeat := XchgCfg.waitResult_repeat left
      rw [State.answered_applyResponse held judged verdict leads, State.noteResponse_node target (by nofun)]
      rfl
    · have leads := (State.attemptResult_missed target short).trans (XchgCfg.failResult_retry left)
      have missed : min (s.nd[a].miss + 1) s.cx.cfg.loss.toNat = s.nd[a].miss + 1 := Nat.min_eq_left (Nat.le_of_lt short)
      rw [State.answered_applyResponse held judged verdict leads, State.noteResponse_node target (by nofun),
        Entry.afterResponse, Entry.missed]
      change Host.Outcome.next { s with
        fe := answered
        nd := upd s.nd a { s.nd[a] with miss := min (s.nd[a].miss + 1) s.cx.cfg.loss.toNat }
        cx := { s.cx with inFlight := some { r with attempt := r.attempt + 1 } } } = _
      rw [missed]
    · have leads : s.attemptResult r .garbled = .retry := XchgCfg.failResult_retry left
      refine ⟨satInc s.cx.garble, satInc_toNat _, ?_⟩
      rw [State.answered_applyResponse held judged verdict leads, State.noteResponse_garbled]
      rfl
    · have leads : s.attemptResult r (.ack d) = .acked d := rfl
      have onward : (r.stage = .resyncPing ∧ CmdOutcome.ack = .ack) := ⟨stage, rfl⟩
      rw [State.answered_applyResponse held judged verdict leads, State.noteResponse_node target (by nofun),
        InFlight.sending_resync stage, State.applyResult, State.concludeStage, if_pos onward]
      rfl
  · have free' : s.answered.cx.inFlight = none := free
    rw [begun, State.applyResponse_none free', State.unsolicited, if_pos allOnes]
    rfl
  · have free' : s.answered.cx.inFlight = none := free
    refine ⟨satInc s.cx.garble, satInc_toNat _, ?_⟩
    rw [begun, State.applyResponse_none free', State.unsolicited, if_neg notOnes]
    rfl

/-! ### The command ends -/

theorem EntryState.canBeLost_iff {st : EntryState} : st.canBeLost = true ↔ st = .bound ∨ st = .ready ∨ st = .parked := by
  cases st <;> simp [EntryState.canBeLost]

theorem State.loseTarget_present {s : State} {a : NodeAddr}
    (present : s.nd[a].state = .bound ∨ s.nd[a].state = .ready ∨ s.nd[a].state = .parked) :
    s.loseTarget (.node a) = (s.setEntryState a .lost).raise .nodeLost :=
  if_pos (EntryState.canBeLost_iff.2 present)

theorem State.loseTarget_absent {s : State} {a : NodeAddr} (absent : s.nd[a].state = .free ∨ s.nd[a].state = .lost) :
    s.loseTarget (.node a) = s := by
  refine if_neg ?_
  change ¬s.nd[a].state.canBeLost = true
  rcases absent with gone | gone <;> rw [gone] <;> nofun

/-- A command that ends without an ACK hands its outcome over in either stage (R49). -/
theorem State.concludeStage_failed (s : State) (r : InFlight) {o : CmdOutcome} (failed : o ≠ .ack) (d : BitVec 16) :
    s.concludeStage r o d = s.handOver r o d :=
  State.concludeStage_handOver (fun both => failed both.2) d

/-- The state the loss limit leaves at a node, before the outcome is handed over (R50). -/
theorem State.applyResult_lossLimit {s : State} {r : InFlight} {a : NodeAddr} (target : r.target = .node a) :
    s.applyResult r .lossLimit = ((s.loseTarget (.node a)).markResync (.node a)).handOver r .noAnswer 0 := by
  rw [State.applyResult, target]
  exact State.concludeStage_failed _ r (by nofun) 0

theorem State.applyResult_retriesSpent {s : State} {r : InFlight} {a : NodeAddr} (target : r.target = .node a) :
    s.applyResult r .retriesSpent = (s.markResync (.node a)).handOver r .noAnswer 0 := by
  rw [State.applyResult, target]
  exact State.concludeStage_failed _ r (by nofun) 0

theorem State.applyResult_waitLimit {s : State} {r : InFlight} {a : NodeAddr} (target : r.target = .node a) :
    s.applyResult r .waitLimit = (s.markResync (.node a)).handOver r .timeout 0 := by
  rw [State.applyResult, target]
  exact State.concludeStage_failed _ r (by nofun) 0

/-- An entry written and then marked RESYNC is written once. -/
theorem State.markResync_written (s : State) (a : NodeAddr) (e : Entry) :
    (s.setNd (upd s.nd a e)).markResync (.node a) = s.setNd (upd s.nd a { e with resync := true }) := by
  rw [State.markResync_node, State.setNd_nd, upd_self, upd_upd]
  rfl

/-- Settles O46: each judgement's entry, the rows that name a case of the response, and the outcome handed over. -/
theorem commandReachesOutcome : Obligations.CommandReachesOutcome := by
  intro s f r a running sent held target e answered heard leaving
  have judged := InFlight.judged_of_node target
  have begun := exec_responseArrival_sent running sent f
  refine ⟨fun d verdict stage => ?_, fun d verdict => ?_, fun verdict spent => ?_, fun verdict short spent => ?_,
    fun verdict spent => ?_, fun verdict reached => ?_⟩
  · have leads : s.attemptResult r (.ack d) = .acked d := rfl
    have ends : ¬(r.stage = .resyncPing ∧ CmdOutcome.ack = .ack) := fun both => nomatch stage.symm.trans both.1
    have written : (heard.acked (decide (r.sending = .ping))) =
        if r.cmd = .ping then { heard with seq := false, resync := false } else { heard with seq := !e.seq } := by
      rw [InFlight.sending_command stage]
      unfold Entry.acked
      simp only [decide_eq_true_iff]
      rfl
    rw [begun, State.answered_applyResponse held judged verdict leads, State.noteResponse_node target (by nofun),
      State.applyResult, State.concludeStage_handOver ends, ← written]
    rfl
  · have leads : s.attemptResult r (.refuse d) = .refused d := rfl
    have written : heard.refused (decide (r.sending = .ping)) =
        { heard with seq := !e.seq, resync := if r.sending = .ping then true else e.resync } := by
      unfold Entry.refused
      simp only [decide_eq_true_iff]
      rfl
    rw [begun, State.answered_applyResponse held judged verdict leads, State.noteResponse_node target (by nofun),
      State.applyResult, State.concludeStage_failed _ _ (by nofun), ← written]
    rfl
  · have leads : s.attemptResult r .wait = .waitLimit := XchgCfg.waitResult_limit spent
    have row : exec (.waitLimitExceeded f) s = .next (s.answered.applyResponse f) := congrArg Host.Outcome.next
      (State.respondIf_of_result running sent held judged (by rw [verdict, leads]; rfl))
    rw [row, State.answered_applyResponse held judged verdict leads, State.noteResponse_node target (by nofun),
      State.applyResult_waitLimit target, State.markResync_written]
    rfl
  · have leads := (State.attemptResult_missed target short).trans (XchgCfg.failResult_spent spent)
    have row : exec (.retriesSpent f) s = .next (s.answered.applyResponse f) := congrArg Host.Outcome.next
      (State.respondIf_of_result running sent held judged (by rw [verdict, leads]; rfl))
    have missed : e.missed s.cx.cfg.loss = { e with miss := e.miss + 1 } := by
      rw [Entry.missed, Nat.min_eq_left (Nat.le_of_lt short)]
    rw [row, State.answered_applyResponse held judged verdict leads, State.noteResponse_node target (by nofun),
      State.applyResult_retriesSpent target, State.markResync_written]
    change Host.Outcome.next ((leaving { e.missed s.cx.cfg.loss with resync := true }).handOver r .noAnswer 0) = _
    rw [missed]
  · have leads : s.attemptResult r .garbled = .retriesSpent := XchgCfg.failResult_spent spent
    have row : exec (.retriesSpent f) s = .next (s.answered.applyResponse f) := congrArg Host.Outcome.next
      (State.respondIf_of_result running sent held judged (by rw [verdict, leads]; rfl))
    refine ⟨satInc s.cx.garble, satInc_toNat _, ?_⟩
    rw [row, State.answered_applyResponse held judged verdict leads, State.noteResponse_garbled,
      State.applyResult_retriesSpent target]
    rfl
  · have leads := State.attemptResult_lossLimit target reached
    have arrival := State.answered_applyResponse held judged verdict leads
    have row : exec (.lossLimitReached f) s = .next (s.answered.applyResponse f) := congrArg Host.Outcome.next
      (State.respondIf_of_result running sent held judged (by rw [verdict, leads]; rfl))
    have missed : e.missed s.cx.cfg.loss = { e with miss := s.cx.cfg.loss.toNat } := by
      rw [Entry.missed, Nat.min_eq_right reached]
    have noted : s.answered.noteResponse r .noAnswer = leaving { e with miss := s.cx.cfg.loss.toNat } := by
      rw [State.noteResponse_node target (by nofun), ← missed]
      rfl
    have there : (leaving { e with miss := s.cx.cfg.loss.toNat }).nd[a] = { e with miss := s.cx.cfg.loss.toNat } :=
      upd_self _ _ _
    rw [noted, State.applyResult_lossLimit target] at arrival
    refine ⟨fun present => ?_, fun absent => ?_, fun last => ?_⟩
    · have lost : (leaving { e with miss := s.cx.cfg.loss.toNat }).setEntryState a .lost =
          leaving { e with miss := s.cx.cfg.loss.toNat, state := .lost } := by
        rw [State.setEntryState, State.entry, there]
        exact congrArg s.answered.setNd (upd_upd s.nd a _ _)
      rw [row, arrival, State.loseTarget_present (by rw [there]; exact present), lost]
      exact congrArg (fun t : State => Host.Outcome.next (t.handOver r .noAnswer 0))
        (State.markResync_written (s.answered.raise .nodeLost) a _)
    · rw [row, arrival, State.loseTarget_absent (by rw [there]; exact absent)]
      exact congrArg (fun t : State => Host.Outcome.next (t.handOver r .noAnswer 0))
        (State.markResync_written s.answered a _)
    · have spent : s.onLastAttempt = true := by
        rw [State.onLastAttempt, held]
        exact decide_eq_true (XchgCfg.failResult_spent last)
      have same : exec (.retriesSpent f) s = .next (s.answered.applyResponse f) := congrArg Host.Outcome.next
        (State.respondIf_of_result running sent held judged (by rw [verdict, leads, spent]; rfl))
      rw [row, same]

end Sys2Proof.Machine
end

section
/-! PROOFS. The survey's responses: the identity elected, and the ASSIGN that binds or fails (chapters 3.4, 4.2 and
4.4). -/
namespace Sys2Proof.Machine

/-! ### The end of a survey, in UP and in DRAINING -/

theorem State.surveyWouldEnd_up {s : State} (up : s.fe.link = .up) (o : SurveyOutcome) :
    s.surveyWouldEnd o = s.endSurvey o := by
  have notDraining : ¬s.fe.link = .draining := by
    rw [up]
    nofun
  exact if_neg notDraining

theorem State.surveyWouldEnd_draining {s : State} (draining : s.fe.link = .draining) (o : SurveyOutcome) :
    s.surveyWouldEnd o = s.setSv { s.sv with state := .seeking, binding := none } :=
  if_pos draining

/-! ### The identity -/

theorem Entry.rejoins_iff {e : Entry} {id : Identity} :
    e.rejoins id = true ↔ e.identity = some id ∧ (e.state = .ready ∨ e.state = .parked ∨ e.state = .lost) := by
  rw [Entry.rejoins, Bool.and_eq_true, decide_eq_true_iff]
  cases e.state <;> simp

theorem State.chooseBinding_rejoin {s : State} {id : Identity} {a : NodeAddr} (holds : s.nd[a].rejoins id = true)
    (alone : ∀ b : NodeAddr, s.nd[b].rejoins id = true → b = a) :
    s.chooseBinding id = some { identity := id, target := a, rejoin := true, capA := none } := by
  rw [State.chooseBinding]
  cases found : addresses.find? (fun a => (s.entry a).rejoins id) with
  | none => exact absurd holds (find?_addresses_none.1 found a)
  | some b =>
    obtain rfl := alone b (find?_addresses found).1
    rfl

/-- With no entry that holds the identity the choice is the lowest FREE address (R72). -/
theorem State.chooseBinding_new {s : State} {id : Identity} {a : NodeAddr}
    (stranger : ∀ b : NodeAddr, ¬s.nd[b].rejoins id = true)
    (free : addresses.find? (fun a => decide ((s.entry a).state = .free)) = some a) :
    s.chooseBinding id = some { identity := id, target := a, rejoin := false, capA := none } := by
  have nobody : addresses.find? (fun a => (s.entry a).rejoins id) = none := find?_addresses_none.2 stranger
  simp only [State.chooseBinding, nobody, free]

theorem State.chooseBinding_none {s : State} {id : Identity} (stranger : ∀ b : NodeAddr, ¬s.nd[b].rejoins id = true)
    (taken : ∀ b : NodeAddr, s.nd[b].state ≠ .free) : s.chooseBinding id = none := by
  have nobody : addresses.find? (fun a => (s.entry a).rejoins id) = none := find?_addresses_none.2 stranger
  have full : addresses.find? (fun a => decide ((s.entry a).state = .free)) = none :=
    find?_addresses_none.2 fun b free => taken b (of_decide_eq_true free)
  simp only [State.chooseBinding, nobody, full]

theorem find?_lowest {p : NodeAddr → Bool} {a : NodeAddr} (holds : p a = true) (first : ∀ b, p b = true → a ≤ b) :
    addresses.find? p = some a := by
  cases found : addresses.find? p with
  | none => exact absurd holds (find?_addresses_none.1 found a)
  | some b =>
    obtain ⟨good, lowest⟩ := find?_addresses found
    rw [le_antisymm (lowest a holds) (first b good)]

theorem State.applyResponse_identify {s : State} {r : InFlight} (held : s.cx.inFlight = some r)
    (target : r.target = .unbound) (stage : r.stage = .command) (cmd : r.cmd = .identify) (f : BitVec 32) :
    s.applyResponse f = s.released.identityRead f := by
  have sending : r.sending = .identify := (InFlight.sending_command stage).trans cmd
  rw [State.applyResponse, held]
  simp only [target, sending]
  rfl

theorem State.identityRead_nobody {s : State} {f : BitVec 32} (allOnes : f = BitVec.allOnes 32) :
    s.identityRead f = s.surveyWouldEnd .complete :=
  if_pos allOnes

theorem State.identityRead_elected {s : State} {f : BitVec 32} {b : Binding} (identity : f ≠ BitVec.allOnes 32)
    (chosen : s.chooseBinding f = some b) :
    s.identityRead f = s.setSv { s.sv with state := .elected, binding := some b } := by
  rw [State.identityRead, if_neg identity, chosen]

theorem State.identityRead_full {s : State} {f : BitVec 32} (identity : f ≠ BitVec.allOnes 32)
    (chosen : s.chooseBinding f = none) : s.identityRead f = s.surveyWouldEnd .directoryFull := by
  rw [State.identityRead, if_neg identity, chosen]

theorem FrameEngine.running_working {fe : FrameEngine} (working : fe.link = .up ∨ fe.link = .draining) :
    fe.running = true :=
  FrameEngine.running_iff.2 (.inr working)

/-- Settles O49: the binding chosen by who holds the identity and which addresses are FREE. -/
theorem identityElects : Obligations.IdentityElects := by
  intro s f r working sent held target stage cmd cx' answered ended waiting elected holds full
  have begun : exec (.responseArrival f) s = .next (s.answered.released.identityRead f) :=
    (exec_responseArrival_sent (FrameEngine.running_working working) sent f).trans
      (congrArg Host.Outcome.next (State.applyResponse_identify (s := s.answered) held target stage cmd f))
  have holder (b : NodeAddr) : s.nd[b].rejoins f = true ↔ holds b := Entry.rejoins_iff
  have nowhere (h : full) : s.answered.released.chooseBinding f = none := by
    obtain ⟨-, stranger, taken⟩ := h
    exact State.chooseBinding_none (s := s.answered.released) (fun b held => stranger b ((holder b).1 held)) taken
  refine ⟨fun up allOnes => ?_, fun up h => ?_, fun draining h => ?_, fun a identity held alone => ?_,
    fun a identity stranger free lowest => ?_⟩
  · rw [begun, State.identityRead_nobody allOnes, State.surveyWouldEnd_up (s := s.answered.released) up]
    rfl
  · rw [begun, State.identityRead_full h.1 (nowhere h), State.surveyWouldEnd_up (s := s.answered.released) up]
    rfl
  · rcases h with allOnes | h
    · rw [begun, State.identityRead_nobody allOnes,
        State.surveyWouldEnd_draining (s := s.answered.released) draining]
      rfl
    · rw [begun, State.identityRead_full h.1 (nowhere h),
        State.surveyWouldEnd_draining (s := s.answered.released) draining]
      rfl
  · have chosen := State.chooseBinding_rejoin (s := s.answered.released) ((holder a).2 held)
      fun b held => alone b ((holder b).1 held)
    rw [begun, State.identityRead_elected identity chosen]
    rfl
  · have first : addresses.find? (fun b => decide (s.nd[b].state = .free)) = some a :=
      find?_lowest (decide_eq_true free) fun b free => lowest b (of_decide_eq_true free)
    have chosen := State.chooseBinding_new (s := s.answered.released) (fun b held => stranger b ((holder b).1 held)) first
    rw [begun, State.identityRead_elected identity chosen]
    rfl

/-! ### The ASSIGN -/

theorem State.surveyOutcome_assign {r : InFlight} {a : NodeAddr} (cmd : r.cmd = .assign a) (s : State) (o : CmdOutcome)
    (d : BitVec 16) : s.surveyOutcome r o d = if o = .ack then s.bindEntry else s.electionFailure := by
  rw [State.surveyOutcome, cmd]

theorem State.bindEntry_some {s : State} {b : Binding} (binding : s.sv.binding = some b) :
    s.bindEntry =
      (s.setEntry b.target (boundEntry b.identity s.fe.frameNo)).setSv { s.sv with state := .binding } := by
  rw [State.bindEntry, binding]

/-- The survey back in SEEKING with one election failure more (R73). -/
def State.electionCounted (s : State) : State :=
  s.setSv { state := .seeking, binding := none
            result := { s.sv.result with electionFailures := s.sv.result.electionFailures + 1 } }

/-- An election failure short of the third, or one in DRAINING, returns the survey to SEEKING (R73, R76). -/
theorem State.electionFailure_seeks {s : State} (working : s.fe.link = .up ∨ s.fe.link = .draining)
    (goesOn : ¬(s.fe.link = .up ∧ 2 ≤ s.sv.result.electionFailures)) : s.electionFailure = s.electionCounted := by
  unfold State.electionFailure
  split
  next third =>
    have draining : s.fe.link = .draining :=
      working.resolve_left fun up => goesOn ⟨up, Nat.le_of_succ_le_succ third⟩
    exact State.surveyWouldEnd_draining (s := s.electionCounted) draining _
  next => rfl

/-- The third election failure in UP ends the survey (R73). -/
theorem State.electionFailure_ends {s : State} (up : s.fe.link = .up) (third : 2 ≤ s.sv.result.electionFailures) :
    s.electionFailure = s.electionCounted.endSurvey .electionFailed := by
  have limit : Config.electionLimit ≤ s.sv.result.electionFailures + 1 := Nat.succ_le_succ third
  exact (if_pos limit).trans (State.surveyWouldEnd_up (s := s.electionCounted) up _)

/-- An ASSIGN that ends without an ACK is an election failure (R73). -/
theorem State.applyResult_assign_fails {r : InFlight} {a : NodeAddr} (source : r.source = .survey)
    (target : r.target = .unbound) (cmd : r.cmd = .assign a) (s : State) {result : AttemptResult}
    (failed : result.fails = true) : s.applyResult r result = s.released.electionFailure := by
  have handed (o : CmdOutcome) (d : BitVec 16) (other : o ≠ .ack) :
      s.concludeStage r o d = s.released.electionFailure := by
    rw [State.concludeStage_failed _ _ other, State.handOver_survey source, State.surveyOutcome_assign cmd, if_neg other]
  cases result with
  | refused d => exact handed .refuse d (by nofun)
  | waitLimit | retriesSpent | lossLimit =>
    rw [State.applyResult, target]
    exact handed _ 0 (by nofun)
  | acked | waitRepeat | retry => cases failed

theorem State.judgeFor_assign {r : InFlight} {a : NodeAddr} (sending : r.sending = .assign a) (s : State) (f : BitVec 32) :
    s.judgeFor r f = judge (BitVec.ofNat 4 (a.val + 1)) none f := by
  rw [State.judgeFor, InFlight.responder, InFlight.echo, sending, if_neg (by nofun)]
  rfl

/-- The state an ASSIGN's response leaves once its command has ended, the garble counter as given. -/
def State.assignEnded (s : State) (garble : BitVec 16) : State :=
  { s.answered with cx := { s.cx with garble := garble, inFlight := none } }

/-- Settles O50: the result of the attempt by its verdict, the failures by their count and the link state. -/
theorem assignBindsOrFails : Obligations.AssignBindsOrFails := by
  intro s f r b working sent held source target stage cmd binding verdict retriesLeft answered failed goesOn seeks ends
    last fails
  have running := FrameEngine.running_working working
  have sending : r.sending = .assign b.target := (InFlight.sending_command stage).trans cmd
  have judged : r.Judged := ⟨by rw [target]; nofun, fun _ => by rw [sending]; nofun⟩
  have begun := exec_responseArrival_sent running sent f
  have asked : s.judgeFor r f = verdict := State.judgeFor_assign sending s f
  have arrives {j : Judgement} {result : AttemptResult} (v : verdict = j) (leads : s.attemptResult r j = result) :
      exec (.responseArrival f) s = .next ((s.answered.noteResponse r j).applyResult r result) := by
    rw [begun, State.answered_applyResponse held judged (asked.trans v) leads]
  have failing {j : Judgement} {result : AttemptResult} {garble : BitVec 16} (v : verdict = j)
      (leads : s.attemptResult r j = result) (failure : result.fails = true)
      (noted : (s.answered.noteResponse r j).released = s.assignEnded garble) : fails garble := by
    have arrived : s.answered.applyResponse f = (s.assignEnded garble).electionFailure := by
      rw [State.answered_applyResponse held judged (asked.trans v) leads,
        State.applyResult_assign_fails source target cmd _ failure, noted]
    refine ⟨fun notLast => ?_, fun isLast => ?_⟩
    · rw [begun, arrived, State.electionFailure_seeks (s := s.assignEnded garble) working notLast]
      rfl
    · have third : s.onLastElection = true := by
        rw [State.onLastElection, held]
        simp only [source, cmd]
        exact decide_eq_true (Nat.succ_le_succ isLast.2)
      have row : exec (.electionFailed f) s = .next (s.answered.applyResponse f) :=
        congrArg Host.Outcome.next ((if_pos ⟨isLast.1, third⟩).trans
          (State.respondIf_of_result running sent held judged (by rw [asked, v, leads]; exact failure)))
      rw [row, begun, arrived, State.electionFailure_ends (s := s.assignEnded garble) isLast.1 isLast.2]
      exact ⟨rfl, rfl⟩
  have row {j : Judgement} {result : AttemptResult} {p : AttemptResult → Bool} (v : verdict = j)
      (leads : s.attemptResult r j = result) (named : p result = true) :
      Host.Outcome.next (s.respondIf f p) = exec (.responseArrival f) s := by
    rw [begun, State.respondIf_of_result running sent held judged (by rw [asked, v, leads]; exact named)]
  have heard {j : Judgement} (read : j ≠ .garbled) : s.answered.noteResponse r j = s.answered :=
    State.noteResponse_unbound target read
  have unheard : s.attemptResult r .noAnswer = s.cx.cfg.failResult r := by
    refine if_neg ?_
    rw [target]
    nofun
  refine ⟨fun d v => ?_, fun v left => ?_, fun v spent => ?_, fun d v => ?_, fun v left => ?_, fun v spent => ?_,
    fun v => ⟨satInc s.cx.garble, satInc_toNat _, fun left => ?_, fun spent => ?_⟩⟩
  · have notResync : ¬(r.stage = .resyncPing ∧ CmdOutcome.ack = .ack) := fun both => nomatch stage.symm.trans both.1
    have bound : s.answered.released.sv.binding = some b := binding
    rw [arrives (result := .acked d) v rfl, heard (by nofun), State.applyResult, State.concludeStage_handOver notResync,
      State.handOver_survey source, State.surveyOutcome_assign cmd, if_pos rfl, State.bindEntry_some bound]
    rfl
  · rw [arrives v (XchgCfg.waitResult_repeat left), heard (by nofun)]
    rfl
  · have leads : s.attemptResult r .wait = .waitLimit := XchgCfg.waitResult_limit spent
    exact ⟨failing v leads rfl (by rw [heard (by nofun)]; rfl), row v leads rfl⟩
  · exact failing (result := .refused d) v rfl rfl (by rw [heard (by nofun)]; rfl)
  · rw [arrives v (unheard.trans (XchgCfg.failResult_retry left)), heard (by nofun)]
    rfl
  · have leads := unheard.trans (XchgCfg.failResult_spent (Nat.lt_of_not_le spent))
    exact ⟨failing v leads rfl (by rw [heard (by nofun)]; rfl), row v leads rfl⟩
  · have leads : s.attemptResult r .garbled = .retry := XchgCfg.failResult_retry left
    rw [arrives v leads, State.noteResponse_garbled]
    rfl
  · have leads : s.attemptResult r .garbled = .retriesSpent := XchgCfg.failResult_spent (Nat.lt_of_not_le spent)
    exact ⟨failing v leads rfl (by rw [State.noteResponse_garbled]; rfl), row v leads rfl⟩

end Sys2Proof.Machine
end

section
/-! PROOFS. The generation counts the changes of the map, and the change list of an active commit stands (chapters 5.2 and
5.3). -/
namespace Sys2Proof.Machine

/-! ### What an operation may do to the map and the list -/

/-- The map and its generation over a command (R82). -/
def SlotMap.Counts (a b : SlotMap) : Prop :=
  (b.active = a.active ∧ b.generation = a.generation) ∨ (b.active ≠ a.active ∧ b.generation = a.generation + 1)

theorem SlotMap.Counts.same {a b : SlotMap} (h : b = a) : a.Counts b := .inl (by rw [h]; exact ⟨rfl, rfl⟩)

/-- A new map with the generation risen where it differs (R82). -/
theorem SlotMap.counts_changed (a : SlotMap) (m : SlotTable) :
    a.Counts { active := m, generation := if m = a.active then a.generation else a.generation + 1 } := by
  by_cases same : m = a.active
  · exact .inl ⟨same, if_pos same⟩
  · exact .inr ⟨same, if_neg same⟩

theorem SlotMap.counts_linkDownClear (a : SlotMap) : a.Counts a.linkDownClear := by
  have cleared := a.counts_changed SlotTable.empty
  simp only [eq_comm (a := SlotTable.empty)] at cleared
  exact cleared

/-- What every command does to the map with its generation and to the change list of an active commit (R82, R89). -/
structure MapStep (s t : State) : Prop where
  map : s.sm.Counts t.sm ∨ t.atReset
  list : s.ce.phase ≠ .idle → t.ce.phase ≠ .idle → t.cl.list = s.cl.list

/-- The part of the state that the relation looks at, but for the commit phase. -/
def State.mapPart (s : State) : SlotMap × List Change := (s.sm, s.cl.list)

section
variable {s t : State}

theorem MapStep.of_parts (map : s.sm.Counts t.sm) (list : t.cl.list = s.cl.list) : MapStep s t :=
  ⟨.inl map, fun _ _ => list⟩

theorem MapStep.of_same (same : t.mapPart = s.mapPart) : MapStep s t :=
  .of_parts (.same (congrArg Prod.fst same)) (congrArg Prod.snd same)

theorem MapStep.deviceReset (s t : State) : MapStep s t.deviceReset := ⟨.inr rfl, fun _ active => absurd rfl active⟩

/-! ### The host's writes -/

theorem State.mapPart_linkStart (s : State) : s.linkStart.mapPart = s.mapPart := by
  unfold State.linkStart
  split <;> rfl

theorem State.mapPart_stopCommit (s : State) : s.stopCommit.mapPart = s.mapPart := by
  unfold State.stopCommit
  split
  next => rfl
  next => split <;> rfl
  all_goals rfl

theorem State.mapPart_linkStop (s : State) : s.linkStop.mapPart = s.mapPart := by
  unfold State.linkStop
  split
  next => exact State.mapPart_stopCommit _
  next => exact State.mapPart_stopCommit _
  all_goals rfl

theorem State.mapPart_writeLinkCfg (s : State) (w : Word) : (s.writeLinkCfg w).mapPart = s.mapPart := by
  unfold State.writeLinkCfg
  split
  · split <;> rfl
  · rfl

theorem State.mapPart_writeXchgCfg (s : State) (w : Word) : (s.writeXchgCfg w).mapPart = s.mapPart := by
  unfold State.writeXchgCfg
  split
  · split <;> rfl
  · rfl

theorem State.mapPart_surveyStart (s : State) : s.surveyStart.mapPart = s.mapPart := by
  unfold State.surveyStart
  split <;> rfl

theorem State.mapPart_writeCommit (s : State) (m : Option CommitMode) : (s.writeCommit m).mapPart = s.mapPart := by
  unfold State.writeCommit State.commitApply
  (repeat' split) <;> rfl

theorem State.mapPart_popGap (s : State) : s.popGap.mapPart = s.mapPart := by
  unfold State.popGap
  split <;> rfl

theorem State.mapPart_submitRequest (s : State) : s.submitRequest.mapPart = s.mapPart := by
  unfold State.submitRequest
  split
  · rfl
  · split <;> rfl

theorem State.mapPart_popCompletion (s : State) : s.popCompletion.mapPart = s.mapPart := by
  unfold State.popCompletion
  split <;> rfl

theorem State.mapPart_writeStreamCfg (s : State) (n : Fin 8) (w : Word) :
    (s.writeStreamCfg n w).mapPart = s.mapPart := by
  unfold State.writeStreamCfg
  (repeat' split) <;> rfl

theorem State.mapPart_enableStream (s : State) (n : Fin 8) : (s.enableStream n).mapPart = s.mapPart := by
  unfold State.enableStream
  split
  · rfl
  · split
    · rfl
    · simp only [State.mapPart, State.recordGap_sm, State.recordGap_cl]
      rfl

theorem State.mapPart_writeStreamCtrl (s : State) (n : Fin 8) (enable disable dma : Bool) :
    (s.writeStreamCtrl n enable disable dma).mapPart = s.mapPart := by
  unfold State.writeStreamCtrl
  split
  next => rfl
  next => exact (s.setDma n dma).mapPart_enableStream n
  all_goals rfl

theorem State.mapPart_readPort (s : State) (n : Fin 8) : (s.readPort n).mapPart = s.mapPart := by
  unfold State.readPort
  (repeat' split) <;> rfl

theorem State.mapPart_writePort (s : State) (n : Fin 8) (w : Word) : (s.writePort n w).mapPart = s.mapPart := by
  unfold State.writePort
  (repeat' split) <;> rfl

/-- The change list takes no record and is not cleared while a commit is active (R87 to R89). -/
theorem MapStep.appendChange (s : State) : MapStep s s.appendChange := by
  refine ⟨.inl (.same ?_), fun active _ => ?_⟩
  · unfold State.appendChange
    (repeat' split) <;> rfl
  · have busy : s.appendChange = _ := if_pos active
    rw [busy]
    rfl

theorem MapStep.clearChanges (s : State) : MapStep s s.clearChanges := by
  refine ⟨.inl (.same ?_), fun active _ => ?_⟩
  · unfold State.clearChanges
    split <;> rfl
  · have busy : s.clearChanges = _ := if_pos active
    rw [busy]
    rfl

/-! ### The link-down clear -/

theorem MapStep.enterDown (s : State) : MapStep s s.enterDown :=
  .of_parts (by rw [State.enterDown_sm]; exact s.sm.counts_linkDownClear) (by rw [State.enterDown_cl])

theorem MapStep.faultClear (s : State) : MapStep s s.faultClear := by
  unfold State.faultClear
  split
  · exact .enterDown s
  · exact .of_same rfl

theorem State.enterFault_sm (s : State) : s.enterFault.sm = s.sm.linkDownClear := by
  simp [State.enterFault]

theorem MapStep.contention (s : State) : MapStep s s.contention := by
  refine .of_parts ?_ (by rw [State.contention_cl])
  unfold State.contention
  dsimp only
  split
  · rw [State.enterFault_sm]
    exact s.sm.counts_linkDownClear
  · exact .same rfl

/-! ### The frame -/

theorem MapStep.endFrame (s : State) (p : List Bool) : MapStep s (s.endFrame p) := by
  refine .of_parts ?_ (by rw [State.endFrame_cl])
  unfold State.endFrame State.drainStep
  dsimp only
  (repeat' split) <;> simp [SlotMap.Counts.same, SlotMap.counts_linkDownClear]

/-- Formation leaves the list, or completes the commit (R80, R104). -/
theorem State.formMap_list (s : State) : s.formMap.cl = s.cl ∨ s.formMap.ce.phase = .idle := by
  unfold State.formMap
  dsimp only
  split
  · exact .inr rfl
  · exact .inl rfl

/-- The Commit Engine's offer leaves the list, or ends the commit (R99). -/
theorem State.offerCommit_list (s : State) : s.offerCommit.cl = s.cl ∨ s.offerCommit.ce.phase = .idle := by
  unfold State.offerCommit
  split
  next => exact .inl rfl
  next =>
    split
    · unfold State.validatePending
      split
      next => exact .inl (by rw [State.grantStaging_cl, State.beginStaging_cl])
      all_goals exact .inr rfl
    · exact .inl rfl
  next =>
    split
    · exact .inl (State.grantStaging_cl s)
    · exact .inl rfl
  next => exact .inl (State.grantCopy_cl s _)
  next => exact .inl (State.grantCopy_cl s _)

theorem State.settleField_list (s : State) : s.settleField.cl = s.cl ∨ s.settleField.ce.phase = .idle := by
  obtain ⟨ce, cl, -⟩ := s.settleField_commitPart
  rw [ce, cl, State.offerTo]
  split
  · exact .inl rfl
  · exact s.offerCommit_list

/-- The work of a frame start leaves the list of a commit that stays active. -/
theorem State.workFrame_list (s : State) : s.workFrame.cl = s.cl ∨ s.workFrame.ce.phase = .idle := by
  have started : ∀ u : State, u.ce = s.formMap.ce → u.cl = s.formMap.cl →
      u.settleField.cl = s.cl ∨ u.settleField.ce.phase = .idle := fun u ce cl => by
    rcases s.formMap_list with kept | idle
    · exact u.settleField_list.imp_left fun stays => stays.trans (cl.trans kept)
    · have uIdle : u.ce.phase = .idle := by rw [ce]; exact idle
      exact .inr (by rw [State.settleField_ce_idle uIdle]; exact uIdle)
  unfold State.workFrame
  dsimp only
  split
  · exact started _ (State.startStreams_ce _) (State.startStreams_cl _)
  · exact started _ rfl rfl

theorem State.workFrame_sm (s : State) : s.workFrame.sm = s.formedSlotMap := by
  unfold State.workFrame
  dsimp only
  split <;> simp [State.formMap_sm]

theorem MapStep.workFrame (u : State) (sm : u.sm = s.sm) (cl : u.cl = s.cl) : MapStep s u.workFrame := by
  refine ⟨.inl ?_, fun _ active => ?_⟩
  · rw [State.workFrame_sm, ← sm]
    exact u.sm.counts_changed u.formedMap
  · rw [u.workFrame_list.resolve_right active, cl]

theorem MapStep.startFrame (s : State) : MapStep s s.startFrame := by
  unfold State.startFrame
  dsimp only
  split
  next =>
    split
    · exact .workFrame _ (State.countSync_sm _) (State.countSync_cl _)
    · exact .of_parts (.same (State.countSync_sm _)) (by rw [State.countSync_cl]; rfl)
  next => exact .workFrame _ rfl rfl
  next => exact .workFrame _ rfl rfl
  all_goals exact .of_same rfl

end

theorem makes_mapStep : Makes MapStep where
  same _ := .of_same rfl
  reset _ _ _ := .deviceReset _ _
  readData _ _ := .of_same rfl
  readFault _ _ _ _ := .of_same rfl
  fault _ _ _ _ := .of_same rfl
  linkStart s := .of_same s.mapPart_linkStart
  linkStop s := .of_same s.mapPart_linkStop
  faultClear s := .faultClear s
  linkCfg s w := .of_same (s.mapPart_writeLinkCfg w)
  xchgCfg s w := .of_same (s.mapPart_writeXchgCfg w)
  linkErrors _ := .of_same rfl
  surveyStart s := .of_same s.mapPart_surveyStart
  commit s m := .of_same (s.mapPart_writeCommit m)
  evtClear _ _ := .of_same rfl
  sevtClear _ _ := .of_same rfl
  evtEnable _ _ := .of_same rfl
  sevtEnable _ _ := .of_same rfl
  faultRecord _ := .of_same rfl
  popGap s := .of_same s.mapPart_popGap
  appendChange s := .appendChange s
  clearChanges s := .clearChanges s
  chgStage0 _ _ := .of_same rfl
  chgStage1 _ _ := .of_same rfl
  reqStage0 _ _ := .of_same rfl
  reqStage1 _ _ := .of_same rfl
  submit s := .of_same s.mapPart_submitRequest
  flush _ := .of_same rfl
  popCompletion s := .of_same s.mapPart_popCompletion
  streamCfg s n w := .of_same (s.mapPart_writeStreamCfg n w)
  streamLevels _ _ _ := .of_same rfl
  streamCtrl s n a b d := .of_same (s.mapPart_writeStreamCtrl n a b d)
  counts _ _ := .of_same rfl
  readPort s n := .of_same (s.mapPart_readPort n)
  writePort s n w := .of_same (s.mapPart_writePort n w)
  placeField s := .of_parts (.same (State.placeField_sm s)) (by rw [State.placeField_cl])
  fieldSent s := .of_parts (.same (State.fieldSent_sm s)) (by rw [State.fieldSent_cl])
  startFrame s _ := .startFrame s
  cleanFrame _ _ := .of_same rfl
  contention s _ := .contention s
  endFrame s p _ := .endFrame s p
  respond s f _ := .of_parts (.same (State.respond_sm s f)) (by rw [State.respond_cl])

/-- A command's outcome is the one state it makes. -/
theorem mapStep_of_exec {c : Instr} {s t : State} (taken : exec c s = .next t) : MapStep s t := by
  obtain ⟨u, made, step⟩ := exec_makes makes_mapStep c s
  rw [made] at taken
  cases taken
  exact step

/-- Settles O53: each operation leaves the map, changes it with its generation, or is a device reset. -/
theorem generationCountsMapChanges : Obligations.GenerationCountsMapChanges := by
  intro c s t taken
  rcases (mapStep_of_exec taken).map with (kept | changed) | reset
  · exact .inl kept
  · exact .inr (.inl changed)
  · exact .inr (.inr reset)

/-- Settles O54: what alters the list is refused during a commit, or ends it. -/
theorem changeListHeldDuringCommit : Obligations.ChangeListHeldDuringCommit :=
  fun _ _ _ taken before after => (mapStep_of_exec taken).list before after

end Sys2Proof.Machine
end

section
/-! PROOFS. The frame's events leave what only the host writes (chapters 2.1, 5.3, 7.2, 9.1, 10.1 and 10.2). -/
namespace Sys2Proof.Machine

/-! ### What only the host writes -/

/-- The fields only the host writes, but for the pins, the streams, the word last read and the waiting commands. -/
def State.hostPart (s : State) :
    (LinkCfg × LinkCfg × XchgCfg) × (Word × Word × Word × Word) ×
      (BitVec 12 × BitVec 16 × Option FaultRecord × BitVec 8) :=
  ((s.fe.cfg, s.fe.session, s.cx.cfg), (s.cl.stage0, s.cl.stage1, s.rq.stage0, s.rq.stage1),
    (s.eu.enable, s.eu.senable, s.eu.fault, s.eu.faultCount))

/-- The fields of a stream that only the host writes (R113, R114, R116). -/
def Stream.settings (st : Stream) :
    (Dir × Width × Nat × Bool × Bool × FillMode) × (BitVec 10 × BitVec 10 × BitVec 10 × Bool) :=
  ((st.dir, st.width, st.capacity, st.packing, st.signExt, st.fillMode), (st.service, st.burst, st.startLevel, st.dma))

/-- Streams with the settings of those before them. -/
def StreamUnit.SameSettings (a b : StreamUnit) : Prop := ∀ n : Fin 8, b.streams[n].settings = a.streams[n].settings

theorem StreamUnit.SameSettings.of_eq {a b : StreamUnit} (same : b = a) : a.SameSettings b := fun n => by rw [same]

theorem StreamUnit.SameSettings.trans {a b c : StreamUnit} (first : a.SameSettings b) (second : b.SameSettings c) :
    a.SameSettings c := fun n => (second n).trans (first n)

/-- What a frame event leaves (R20 to R22, R86, R113, R114, R116, R141, R153, R155). -/
structure HostKept (s t : State) : Prop where
  pins : t.resetN = s.resetN ∧ t.refclk = s.refclk ∧ t.readData = s.readData ∧ t.pending = s.pending
  part : t.hostPart = s.hostPart
  settings : s.su.SameSettings t.su

/-- An operation that leaves the streams. -/
theorem HostKept.of_su {s t : State}
    (pins : t.resetN = s.resetN ∧ t.refclk = s.refclk ∧ t.readData = s.readData ∧ t.pending = s.pending)
    (part : t.hostPart = s.hostPart) (su : t.su = s.su) : HostKept s t :=
  ⟨pins, part, .of_eq su⟩

/-! ### The streams' moves -/

theorem State.hostPart_recordGap (s : State) (g : GapRecord) : (s.recordGap g).hostPart = s.hostPart := by
  unfold State.recordGap
  split <;> rfl

theorem State.hostPart_recordGaps (l : List GapRecord) (s : State) :
    (l.foldl State.recordGap s).hostPart = s.hostPart := by
  induction l generalizing s with
  | nil => rfl
  | cons g l ih => exact (ih _).trans (s.hostPart_recordGap g)

theorem State.hostPart_applyMove (s : State) (n : Fin 8) (m : StreamMove) : (s.applyMove n m).hostPart = s.hostPart := by
  have raised : (if m.xrun = true then (s.setStream n m.stream).raiseXrun n else s.setStream n m.stream).hostPart =
      s.hostPart := by
    split <;> rfl
  exact (State.hostPart_recordGaps m.gaps _).trans raised

theorem State.hostPart_startStreams (s : State) : s.startStreams.hostPart = s.hostPart :=
  streams_keep _ _ State.hostPart State.hostPart_applyMove s

theorem State.hostPart_endStreams (s : State) (p : List Bool) : (s.endStreams p).hostPart = s.hostPart :=
  streams_keep _ _ State.hostPart State.hostPart_applyMove s

theorem Stream.settings_frameRelease (st : Stream) (f : FrameNo) (m : SlotTable) (n : Fin 8) :
    (st.frameRelease f m n).stream.settings = st.settings := by
  unfold Stream.frameRelease Stream.primingStart Stream.runningStart
  (repeat' split) <;> rfl

theorem settings_frameStartMove (f : FrameNo) (m : SlotTable) (nd : Directory) (n : Fin 8) (st : Stream) :
    (frameStartMove f m nd n st).stream.settings = st.settings := by
  by_cases off : st.state = .disabled
  · rw [frameStartMove_disabled off]
    rfl
  · rw [frameStartMove_enabled off]
    exact Stream.settings_frameRelease _ _ _ _

theorem settings_frameEndMove (f : FrameNo) (m : SlotTable) (p : List Bool) (n : Fin 8) (st : Stream) :
    (frameEndMove f m p n st).stream.settings = st.settings := by
  unfold frameEndMove
  dsimp only
  (repeat' split) <;> rfl

/-! ### The frame start -/

theorem State.hostPart_countSync (s : State) : s.countSync.hostPart = s.hostPart := by
  unfold State.countSync
  dsimp only
  split <;> rfl

theorem State.hostPart_formMap (s : State) : s.formMap.hostPart = s.hostPart := by
  unfold State.formMap
  dsimp only
  split <;> rfl

theorem State.hostPart_grantStaging (s : State) : s.grantStaging.hostPart = s.hostPart := by
  unfold State.grantStaging
  split <;> rfl

theorem State.hostPart_validatePending (s : State) : s.validatePending.hostPart = s.hostPart := by
  unfold State.validatePending
  split
  next => exact State.hostPart_grantStaging _
  all_goals rfl

theorem State.hostPart_grantCopy (s : State) (c : LinkCommand) : (s.grantCopy c).hostPart = s.hostPart := by
  unfold State.grantCopy
  split <;> rfl

theorem State.hostPart_offerCommit (s : State) : s.offerCommit.hostPart = s.hostPart := by
  unfold State.offerCommit
  split
  next => rfl
  next =>
    split
    · exact s.hostPart_validatePending
    · rfl
  next =>
    split
    · exact s.hostPart_grantStaging
    · rfl
  next => exact s.hostPart_grantCopy _
  next => exact s.hostPart_grantCopy _

theorem State.hostPart_offerSurvey (s : State) : s.offerSurvey.hostPart = s.hostPart := by
  unfold State.offerSurvey
  split
  · split <;> rfl
  · rfl

theorem State.hostPart_settle (s : State) (q : Request) (o : CplOutcome) (frees : Bool) :
    (s.settle q o frees).hostPart = s.hostPart := by
  unfold State.settle
  split <;> rfl

theorem State.hostPart_issueRequests (fuel : Nat) (s : State) :
    (State.issueRequests fuel s).hostPart = s.hostPart := by
  induction fuel generalizing s with
  | zero => rfl
  | succ fuel ih =>
    unfold State.issueRequests
    split
    · rfl
    · split
      · rfl
      · split
        · exact (ih _).trans (s.hostPart_settle _ _ _)
        · rfl

theorem State.hostPart_offerRequests (s : State) : s.offerRequests.hostPart = s.hostPart := by
  unfold State.offerRequests
  split
  · exact State.hostPart_issueRequests _ s
  · rfl

theorem State.hostPart_offerKeepalive (s : State) : s.offerKeepalive.hostPart = s.hostPart := by
  unfold State.offerKeepalive
  split
  · split <;> rfl
  · rfl

theorem State.hostPart_offerTo {f : State → State} (kept : ∀ s : State, (f s).hostPart = s.hostPart) (s : State) :
    (s.offerTo f).hostPart = s.hostPart := by
  unfold State.offerTo
  split
  · rfl
  · exact kept s

theorem State.hostPart_settleField (s : State) : s.settleField.hostPart = s.hostPart :=
  calc s.settleField.hostPart
      = ((s.offerTo State.offerCommit).offerTo State.offerSurvey |>.offerTo State.offerRequests).hostPart :=
        State.hostPart_offerTo State.hostPart_offerKeepalive _
    _ = ((s.offerTo State.offerCommit).offerTo State.offerSurvey).hostPart :=
        State.hostPart_offerTo State.hostPart_offerRequests _
    _ = (s.offerTo State.offerCommit).hostPart := State.hostPart_offerTo State.hostPart_offerSurvey _
    _ = s.hostPart := State.hostPart_offerTo State.hostPart_offerCommit _

theorem State.hostPart_workFrame (s : State) : s.workFrame.hostPart = s.hostPart := by
  unfold State.workFrame
  dsimp only
  rw [State.hostPart_settleField]
  split
  · rw [State.hostPart_startStreams, State.hostPart_formMap]
  · exact s.hostPart_formMap

theorem State.settings_startStreams (s : State) : s.su.SameSettings s.startStreams.su := fun n => by
  rw [State.startStreams_stream, settings_frameStartMove]

theorem State.settings_workFrame (s : State) : s.su.SameSettings s.workFrame.su := by
  unfold State.workFrame
  dsimp only
  rw [State.settleField_su]
  split
  · exact (StreamUnit.SameSettings.of_eq s.formMap_su).trans (State.settings_startStreams _)
  · exact .of_eq s.formMap_su

theorem State.hostPart_startFrame (s : State) : s.startFrame.hostPart = s.hostPart := by
  unfold State.startFrame
  dsimp only
  split
  next =>
    split
    · exact (State.hostPart_workFrame _).trans (State.hostPart_countSync s.nextFrame)
    · exact State.hostPart_countSync s.nextFrame
  next => exact State.hostPart_workFrame _
  next => exact State.hostPart_workFrame _
  all_goals rfl

theorem State.settings_startFrame (s : State) : s.su.SameSettings s.startFrame.su := by
  have next : s.su.SameSettings s.nextFrame.su := fun n => rfl
  have synced : s.su.SameSettings s.nextFrame.countSync.su := next.trans (.of_eq (State.countSync_su _))
  unfold State.startFrame
  dsimp only
  split
  next =>
    split
    · exact synced.trans (State.settings_workFrame _)
    · exact synced
  next => exact next.trans (State.settings_workFrame _)
  next => exact next.trans (State.settings_workFrame _)
  all_goals exact .of_eq rfl

theorem HostKept.startFrame (s : State) : HostKept s s.startFrame :=
  ⟨⟨by simp, by simp, by simp, by simp⟩, s.hostPart_startFrame, s.settings_startFrame⟩

/-! ### The command field and the read-back comparison -/

theorem State.hostPart_fixSwitchFrame (s : State) : s.fixSwitchFrame.hostPart = s.hostPart := by
  unfold State.fixSwitchFrame
  split <;> rfl

theorem State.hostPart_placeField (s : State) : s.placeField.hostPart = s.hostPart := by
  unfold State.placeField
  split
  · exact s.hostPart_fixSwitchFrame
  · rfl

theorem State.hostPart_countCopy (s : State) : s.countCopy.hostPart = s.hostPart := by
  unfold State.countCopy
  split <;> rfl

theorem State.hostPart_concludeBroadcast (s : State) : s.concludeBroadcast.hostPart = s.hostPart := by
  unfold State.concludeBroadcast
  split
  · split
    next => exact State.hostPart_countCopy _
    all_goals rfl
  · rfl

theorem State.hostPart_fieldSent (s : State) : s.fieldSent.hostPart = s.hostPart := by
  unfold State.fieldSent
  split
  · exact (State.hostPart_concludeBroadcast _).trans s.hostPart_placeField
  · rfl

theorem HostKept.placeField (s : State) : HostKept s s.placeField :=
  .of_su ⟨by simp, by simp, by simp, by simp⟩ s.hostPart_placeField (State.placeField_su s)

theorem HostKept.fieldSent (s : State) : HostKept s s.fieldSent :=
  .of_su ⟨by simp, by simp, by simp, by simp⟩ s.hostPart_fieldSent (State.fieldSent_su s)

theorem State.hostPart_failInFlightRequest (s : State) : s.failInFlightRequest.hostPart = s.hostPart := by
  unfold State.failInFlightRequest
  split
  · split <;> rfl
  · rfl

theorem State.hostPart_failCommit (s : State) : s.failCommit.hostPart = s.hostPart := by
  unfold State.failCommit
  split <;> rfl

theorem State.hostPart_linkDownClear (s : State) : s.linkDownClear.hostPart = s.hostPart := by
  unfold State.linkDownClear State.stopSurvey
  split <;> rfl

theorem State.hostPart_enterFault (s : State) : s.enterFault.hostPart = s.hostPart :=
  (State.hostPart_linkDownClear _).trans ((State.hostPart_failCommit _).trans s.hostPart_failInFlightRequest)

theorem State.hostPart_enterDown (s : State) : s.enterDown.hostPart = s.hostPart := s.hostPart_linkDownClear

/-- The link-down clear empties live sets alone (R34). -/
theorem StreamUnit.settings_linkDownClear (su : StreamUnit) : su.SameSettings su.linkDownClear := fun n => by
  rw [StreamUnit.linkDownClear_stream]
  rfl

theorem State.enterFault_su (s : State) : s.enterFault.su = s.su.linkDownClear := by
  simp [State.enterFault]

theorem HostKept.contention (s : State) : HostKept s s.contention := by
  refine ⟨⟨by simp, by simp, by simp, by simp⟩, ?_, ?_⟩
  all_goals
    unfold State.contention
    dsimp only
    split
  · exact State.hostPart_enterFault _
  · rfl
  · rw [State.enterFault_su]
    exact s.su.settings_linkDownClear
  · exact .of_eq rfl

/-! ### The frame end -/

theorem State.hostPart_drainStep (s : State) : s.drainStep.hostPart = s.hostPart := by
  unfold State.drainStep
  split
  · split
    · exact s.hostPart_enterDown
    · rfl
  · split <;> rfl

theorem State.settings_drainStep (s : State) : s.su.SameSettings s.drainStep.su := by
  unfold State.drainStep
  split
  · split
    · rw [State.enterDown_su]
      exact s.su.settings_linkDownClear
    · exact .of_eq rfl
  · split <;> exact .of_eq rfl

/-- A frame end up to its drain: the position taken and the groups delivered (R121). -/
def State.delivered (s : State) (p : List Bool) : State :=
  let u := s.fieldSent.setFe { s.fieldSent.fe with pos := .ended }
  if u.fe.servesPayload = true then u.endStreams p else u

theorem State.endFrame_delivered (s : State) (p : List Bool) :
    s.endFrame p = if (s.delivered p).fe.link = .draining then (s.delivered p).drainStep else s.delivered p :=
  rfl

theorem State.hostPart_delivered (s : State) (p : List Bool) : (s.delivered p).hostPart = s.hostPart := by
  unfold State.delivered
  dsimp only
  split
  · exact (State.hostPart_endStreams _ p).trans s.hostPart_fieldSent
  · exact s.hostPart_fieldSent

theorem State.settings_endStreams (s : State) (p : List Bool) : s.su.SameSettings (s.endStreams p).su := fun n => by
  rw [State.endStreams_stream, settings_frameEndMove]

theorem State.settings_delivered (s : State) (p : List Bool) : s.su.SameSettings (s.delivered p).su := by
  have served (u : State) (sent : u.su = s.su) :
      s.su.SameSettings (if u.fe.servesPayload = true then u.endStreams p else u).su := by
    split
    · exact (StreamUnit.SameSettings.of_eq sent).trans (State.settings_endStreams u p)
    · exact .of_eq sent
  exact served _ (State.fieldSent_su s)

theorem HostKept.endFrame (s : State) (p : List Bool) : HostKept s (s.endFrame p) := by
  refine ⟨⟨by simp, by simp, by simp, by simp⟩, ?_, ?_⟩
  all_goals
    rw [State.endFrame_delivered]
    split
  · rw [State.hostPart_drainStep, State.hostPart_delivered]
  · exact s.hostPart_delivered p
  · exact (s.settings_delivered p).trans (State.settings_drainStep _)
  · exact s.settings_delivered p

/-! ### The response -/

theorem State.hostPart_commitOutcome (s : State) (t : Target) (o : CmdOutcome) :
    (s.commitOutcome t o).hostPart = s.hostPart := by
  unfold State.commitOutcome State.stagingAck
  (repeat' split) <;> rfl

theorem State.hostPart_surveyWouldEnd (s : State) (o : SurveyOutcome) : (s.surveyWouldEnd o).hostPart = s.hostPart := by
  unfold State.surveyWouldEnd
  split <;> rfl

theorem State.hostPart_identityRead (s : State) (f : BitVec 32) : (s.identityRead f).hostPart = s.hostPart := by
  unfold State.identityRead
  split
  · exact s.hostPart_surveyWouldEnd _
  · split
    · rfl
    · exact s.hostPart_surveyWouldEnd _

theorem State.hostPart_electionFailure (s : State) : s.electionFailure.hostPart = s.hostPart := by
  unfold State.electionFailure
  dsimp only
  split
  · exact State.hostPart_surveyWouldEnd _ _
  · rfl

theorem State.hostPart_bindEntry (s : State) : s.bindEntry.hostPart = s.hostPart := by
  unfold State.bindEntry
  split <;> rfl

theorem State.hostPart_makeReady (s : State) (a : NodeAddr) (d : BitVec 16) : (s.makeReady a d).hostPart = s.hostPart := by
  unfold State.makeReady
  split <;> rfl

theorem State.hostPart_bindingFailed (s : State) (a : NodeAddr) : (s.bindingFailed a).hostPart = s.hostPart := by
  unfold State.bindingFailed State.loseBinding
  split <;> rfl

theorem State.hostPart_surveyOutcome (s : State) (r : InFlight) (o : CmdOutcome) (d : BitVec 16) :
    (s.surveyOutcome r o d).hostPart = s.hostPart := by
  unfold State.surveyOutcome
  split
  · split
    · exact s.hostPart_bindEntry
    · exact s.hostPart_electionFailure
  · split
    · split
      · rfl
      · exact s.hostPart_makeReady _ d
    · exact s.hostPart_bindingFailed _
  · rfl

theorem State.hostPart_requestOutcome (s : State) (o : CmdOutcome) (d : BitVec 16) (attempts : Nat) :
    (s.requestOutcome o d attempts).hostPart = s.hostPart := by
  cases queue : s.rq.queue with
  | nil => rw [State.requestOutcome, queue]
  | cons q rest =>
    rw [State.requestOutcome_cons queue]
    rfl

theorem State.hostPart_handOver (s : State) (r : InFlight) (o : CmdOutcome) (d : BitVec 16) :
    (s.handOver r o d).hostPart = s.hostPart := by
  cases source : r.source with
  | commit =>
    rw [State.handOver_commit source]
    exact State.hostPart_commitOutcome _ _ _
  | survey =>
    rw [State.handOver_survey source]
    exact State.hostPart_surveyOutcome _ _ _ _
  | request =>
    rw [State.handOver_request source]
    exact State.hostPart_requestOutcome _ _ _ _
  | keepalive =>
    rw [State.handOver_keepalive source]
    rfl

theorem State.hostPart_concludeStage (s : State) (r : InFlight) (o : CmdOutcome) (d : BitVec 16) :
    (s.concludeStage r o d).hostPart = s.hostPart := by
  unfold State.concludeStage
  split
  · rfl
  · exact s.hostPart_handOver r o d

theorem State.hostPart_updateTarget (s : State) (t : Target) (f : Entry → Entry) :
    (s.updateTarget t f).hostPart = s.hostPart := by
  cases t <;> rfl

theorem State.hostPart_loseTarget (s : State) (t : Target) : (s.loseTarget t).hostPart = s.hostPart := by
  unfold State.loseTarget
  split
  · split <;> rfl
  all_goals rfl

theorem State.hostPart_noteResponse (s : State) (r : InFlight) (j : Judgement) :
    (s.noteResponse r j).hostPart = s.hostPart := by
  unfold State.noteResponse
  dsimp only
  split <;> exact State.hostPart_updateTarget _ _ _

theorem State.hostPart_applyResult (s : State) (r : InFlight) (a : AttemptResult) :
    (s.applyResult r a).hostPart = s.hostPart := by
  cases a with
  | acked d => exact s.hostPart_concludeStage r _ d
  | refused d => exact s.hostPart_concludeStage r _ d
  | waitRepeat | retry => rfl
  | waitLimit | retriesSpent =>
    exact (State.hostPart_concludeStage _ r _ _).trans (s.hostPart_updateTarget _ _)
  | lossLimit =>
    exact (State.hostPart_concludeStage _ r _ _).trans
      ((State.hostPart_updateTarget _ _ _).trans (s.hostPart_loseTarget _))

theorem State.hostPart_unsolicited (s : State) (f : BitVec 32) : (s.unsolicited f).hostPart = s.hostPart := by
  unfold State.unsolicited
  split <;> rfl

theorem State.hostPart_applyResponse (s : State) (f : BitVec 32) : (s.applyResponse f).hostPart = s.hostPart := by
  unfold State.applyResponse
  split
  · exact s.hostPart_unsolicited f
  · split
    · exact s.hostPart_unsolicited f
    · exact State.hostPart_identityRead _ f
    · exact (State.hostPart_applyResult _ _ _).trans (s.hostPart_noteResponse _ _)

theorem HostKept.respond (s : State) (f : BitVec 32) : HostKept s (s.respond f) :=
  .of_su ⟨by simp, by simp, by simp, by simp⟩ ((State.hostPart_applyResponse _ f).trans s.hostPart_fieldSent)
    (State.respond_su s f)

/-! ### The frame's events -/

theorem HostKept.refl (s : State) : HostKept s s := .of_su ⟨rfl, rfl, rfl, rfl⟩ rfl rfl

theorem HostKept.sendIf (s : State) (p : LinkCommand → Bool) : HostKept s (s.sendIf p) := by
  unfold State.sendIf
  split
  · split
    · exact .placeField s
    · exact .refl s
  · exact .refl s

theorem HostKept.respondIf (s : State) (f : BitVec 32) (p : AttemptResult → Bool) : HostKept s (s.respondIf f p) := by
  unfold State.respondIf
  split
  · split
    · exact .respond s f
    · exact .refl s
  · exact .refl s

/-- An event that is an operation where its moment has come, and nothing elsewhere. -/
theorem HostKept.ite {s t : State} {p : Prop} [Decidable p] (h : HostKept s t) : HostKept s (if p then t else s) := by
  split
  · exact h
  · exact .refl s

/-- Each event of the frame, a sending, a comparison or a response, is one of the frame's operations. -/
theorem exec_hostKept {c : Instr} (event : c.isHostEvent = false) (s : State) : ∃ t, exec c s = .next t ∧ HostKept s t := by
  cases c with
  | frameStart | syncComplete | switchInstall => exact ⟨_, rfl, .ite (.startFrame s)⟩
  | readbackComparison line =>
    refine ⟨_, rfl, .ite ?_⟩
    split
    · exact .of_su ⟨rfl, rfl, rfl, rfl⟩ rfl rfl
    · exact .contention s
  | contentionFault => exact ⟨_, rfl, .ite (.contention s)⟩
  | identify | assign | ping | read | write | slotSet | slotClear | switch | cancel | park | resume | unbind =>
    exact ⟨_, rfl, .sendIf s _⟩
  | commandFieldSent => exact ⟨_, rfl, .fieldSent s⟩
  | cancelComplete => exact ⟨_, rfl, .ite (.fieldSent s)⟩
  | responseArrival f => exact ⟨_, rfl, .ite (.respond s f)⟩
  | waitLimitExceeded f | retriesSpent f | lossLimitReached f => exact ⟨_, rfl, .respondIf s f _⟩
  | electionFailed f => exact ⟨_, rfl, .ite (.respondIf s f _)⟩
  | frameEnd p | quietFramesEnd p => exact ⟨_, rfl, .ite (.endFrame s p)⟩
  | _ => cases event

/-- A stream whose settings stand is the stream with those settings. -/
theorem Stream.with_settings {a b : Stream} (same : a.settings = b.settings) :
    a = { a with
      dir := b.dir, width := b.width, capacity := b.capacity, packing := b.packing, signExt := b.signExt
      fillMode := b.fillMode, service := b.service, burst := b.burst, startLevel := b.startLevel, dma := b.dma } := by
  simp only [Stream.settings, Prod.mk.injEq] at same
  obtain ⟨⟨dir, width, capacity, packing, signExt, fillMode⟩, service, burst, startLevel, dma⟩ := same
  rw [← dir, ← width, ← capacity, ← packing, ← signExt, ← fillMode, ← service, ← burst, ← startLevel, ← dma]

/-- Settles O52: the frame's operations leave the part that only the host writes. -/
theorem frameEventsKeepHostState : Obligations.FrameEventsKeepHostState := by
  intro c s t event taken
  obtain ⟨u, made, kept⟩ := exec_hostKept event s
  rw [made] at taken
  cases taken
  obtain ⟨⟨resetN, refclk, readData, pending⟩, part, settings⟩ := kept
  simp only [State.hostPart, Prod.mk.injEq] at part
  obtain ⟨⟨cfg, session, xchg⟩, ⟨chg0, chg1, req0, req1⟩, enable, senable, fault, count⟩ := part
  exact ⟨resetN, refclk, cfg, session, xchg, chg0, chg1, req0, req1, enable, senable, fault, count, readData, pending,
    fun n => Stream.with_settings (settings n)⟩

end Sys2Proof.Machine
end

section
/-! PROOFS. The frame end: capture groups, the drain, and the entry into DOWN (chapters 2.4, 2.6, 7.6 and 10.3). -/
namespace Sys2Proof.Machine

/-! ### A frame end after the response -/

/-- The frame's position at its end. -/
def State.atEnd (s : State) : State := s.setFe { s.fe with pos := .ended }

theorem State.fieldSent_answered {s : State} (answered : s.fe.pos = .answered) : s.fieldSent = s := by
  have past : ¬s.fe.before .sent = true := by
    unfold FrameEngine.before
    rw [answered]
    exact fun h => absurd (of_decide_eq_true (Bool.and_eq_true_iff.1 h).2) (by decide)
  exact if_neg past

theorem State.delivered_answered {s : State} (answered : s.fe.pos = .answered) (p : List Bool) :
    s.delivered p = if s.fe.servesPayload = true then s.atEnd.endStreams p else s.atEnd := by
  rw [State.delivered, State.fieldSent_answered answered]
  rfl

theorem State.delivered_serving {s : State} (answered : s.fe.pos = .answered) (p : List Bool)
    (serves : s.fe.link = .up ∨ (s.fe.link = .draining ∧ s.fe.drainFromSync = false)) :
    s.delivered p = s.atEnd.endStreams p := by
  rw [State.delivered_answered answered, if_pos (FrameEngine.servesPayload_iff.2 serves)]

/-- The groups of a frame end are the streams' and the events' alone. -/
theorem State.delivered_rest {s : State} (answered : s.fe.pos = .answered) (p : List Bool) :
    (s.delivered p).fe = { s.fe with pos := .ended } ∧ (s.delivered p).cx = s.cx ∧ (s.delivered p).nd = s.nd ∧
    (s.delivered p).sm = s.sm ∧ (s.delivered p).ce = s.ce ∧ (s.delivered p).rq = s.rq := by
  rw [State.delivered_answered answered]
  split
  · simp only [State.endStreams_fe, State.endStreams_cx, State.endStreams_nd, State.endStreams_sm, State.endStreams_ce,
      State.endStreams_rq]
    exact ⟨rfl, rfl, rfl, rfl, rfl, rfl⟩
  · exact ⟨rfl, rfl, rfl, rfl, rfl, rfl⟩

theorem FrameEngine.before_ended {fe : FrameEngine} (running : fe.running = true) (answered : fe.pos = .answered) :
    fe.before .ended = true := by
  rw [FrameEngine.before, running, answered]
  rfl

theorem exec_frameEnd_answered {s : State} (running : s.fe.running = true) (answered : s.fe.pos = .answered)
    (p : List Bool) : exec (.frameEnd p) s = .next (s.endFrame p) :=
  congrArg Host.Outcome.next (if_pos (FrameEngine.before_ended running answered))

/-! ### The drain -/

theorem State.drainStep_condition {s : State} (notHeld : s.fe.drainHeld = false)
    (condition : s.cx.inFlight = none ∧ s.ce.phase = .idle) :
    s.drainStep = s.setFe { s.fe with drainHeld := true, quietCount := 0 } := by
  rw [State.drainStep, if_neg (by rw [notHeld]; nofun), if_pos (State.drainCondition_iff.2 condition)]

theorem State.drainStep_waits {s : State} (notHeld : s.fe.drainHeld = false)
    (condition : ¬(s.cx.inFlight = none ∧ s.ce.phase = .idle)) : s.drainStep = s := by
  rw [State.drainStep, if_neg (by rw [notHeld]; nofun), if_neg (mt State.drainCondition_iff.1 condition)]

theorem State.drainStep_quiet {s : State} (held : s.fe.drainHeld = true) (first : s.fe.quietCount < 1) :
    s.drainStep = s.setFe { s.fe with quietCount := s.fe.quietCount + 1 } := by
  have short : ¬Config.quietFrames ≤ s.fe.quietCount + 1 := Nat.not_le.2 (Nat.succ_lt_succ first)
  rw [State.drainStep, if_pos held, if_neg short]

theorem State.drainStep_ends {s : State} (held : s.fe.drainHeld = true) (second : 1 ≤ s.fe.quietCount) :
    s.drainStep = s.enterDown := by
  have reached : Config.quietFrames ≤ s.fe.quietCount + 1 := Nat.succ_le_succ second
  rw [State.drainStep, if_pos held, if_pos reached]

/-- Short of the second quiet frame the drain touches the Frame Engine alone (R29). -/
theorem State.drainStep_goesOn {s : State} (goesOn : ¬(s.fe.drainHeld = true ∧ 1 ≤ s.fe.quietCount)) :
    ∃ fe, s.drainStep = s.setFe fe := by
  by_cases held : s.fe.drainHeld = true
  · exact ⟨_, State.drainStep_quiet held (Nat.lt_of_not_le fun second => goesOn ⟨held, second⟩)⟩
  · have notHeld := Bool.eq_false_of_not_eq_true held
    by_cases condition : s.cx.inFlight = none ∧ s.ce.phase = .idle
    · exact ⟨_, State.drainStep_condition notHeld condition⟩
    · exact ⟨s.fe, State.drainStep_waits notHeld condition⟩

/-- Settles O43: the drain's step on the state with its groups delivered. -/
theorem drainCompletes : Obligations.DrainCompletes := by
  intro s p draining answered
  have running : s.fe.running = true := FrameEngine.running_working (.inr draining)
  have begun := exec_frameEnd_answered running answered p
  obtain ⟨fe, cx, nd, sm, ce, rq⟩ := State.delivered_rest answered p
  have stepped : s.endFrame p = (s.delivered p).drainStep := by
    rw [State.endFrame_delivered, if_pos (by rw [fe]; exact draining)]
  rw [stepped] at begun
  refine ⟨_, begun, fun notHeld condition => ?_, fun notHeld condition => ?_, fun held first => ?_, fun held second => ?_⟩
  · rw [State.drainStep_condition (by rw [fe]; exact notHeld) (by rw [cx, ce]; exact condition), fe]
    rfl
  · rw [State.drainStep_waits (by rw [fe]; exact notHeld) (by rw [cx, ce]; exact condition), fe]
  · rw [State.drainStep_quiet (by rw [fe]; exact held) (by rw [fe]; exact first), fe]
    rfl
  · have row : exec (.quietFramesEnd p) s = .next (s.endFrame p) := congrArg Host.Outcome.next
      (if_pos ⟨FrameEngine.before_ended running answered, draining, held, Nat.succ_le_succ second⟩)
    rw [row, stepped, State.drainStep_ends (by rw [fe]; exact held) (by rw [fe]; exact second)]
    refine ⟨rfl, ?_, ?_, ?_, fun a => allFree_get a, fun k => ?_, ?_, ?_, ?_, fun n => ?_, State.enterDown_linkDown _⟩
    · rw [State.enterDown_fe]
    · rw [State.enterDown_fe, fe]
      rfl
    · rw [State.enterDown_cx]
      rfl
    · rw [State.enterDown_sm]
      exact empty_get k
    · rw [State.enterDown_rq]
      rfl
    · rw [State.enterDown_rq, rq]
      rfl
    · rw [State.enterDown_rq, rq]
      rfl
    · rw [State.enterDown_su, StreamUnit.linkDownClear_stream]

/-! ### The streams of a frame end -/

/-- The move a stream makes at the frame end that follows `s`. -/
def State.endMove (s : State) (p : List Bool) (n : Fin 8) : StreamMove :=
  frameEndMove s.fe.frameNo s.sm.active p n s.su.streams[n]

theorem State.delivered_stream {s : State} (answered : s.fe.pos = .answered) (p : List Bool)
    (serves : s.fe.link = .up ∨ (s.fe.link = .draining ∧ s.fe.drainFromSync = false)) (n : Fin 8) :
    (s.delivered p).su.streams[n] = (s.endMove p n).stream := by
  rw [State.delivered_serving answered p serves]
  exact State.endStreams_stream s.atEnd p n

/-- A stream that takes a group at the frame end (R121). -/
def Stream.Takes (st : Stream) : Prop := st.dir = .capture ∧ st.state ≠ .disabled ∧ st.sinceStart = true

section
variable {st : Stream} (f : FrameNo) (m : SlotTable) (p : List Bool) (n : Fin 8)

theorem frameEndMove_idle (idle : ¬st.Takes) : frameEndMove f m p n st = .still st := by
  unfold frameEndMove
  cases dir : st.dir with
  | playback => rfl
  | capture =>
    refine if_neg fun both => idle ?_
    rw [Bool.and_eq_true, Stream.enabled_iff] at both
    exact ⟨dir, both⟩

theorem frameEndMove_takes (takes : st.Takes) :
    frameEndMove f m p n st =
      if (groupOf m st.live).length = 0 then .still st
      else if (groupOf m st.live).length ≤ st.freeCount then st.deliver (groupSamples p (groupOf m st.live))
      else st.overrun f n := by
  obtain ⟨dir, on, since⟩ := takes
  have both : (st.enabled && st.sinceStart) = true := by
    rw [since, Bool.and_true]
    exact Stream.enabled_iff.2 on
  unfold frameEndMove
  rw [dir]
  exact if_pos both

theorem frameEndMove_none (takes : st.Takes) (alone : (groupOf m st.live).length = 0) :
    frameEndMove f m p n st = .still st := by
  rw [frameEndMove_takes f m p n takes, if_pos alone]

theorem frameEndMove_fits (takes : st.Takes) (some' : 1 ≤ (groupOf m st.live).length)
    (fits : (groupOf m st.live).length ≤ st.capacity - st.queue.length) :
    frameEndMove f m p n st = st.deliver (groupSamples p (groupOf m st.live)) := by
  have room : (groupOf m st.live).length ≤ st.freeCount := fits
  rw [frameEndMove_takes f m p n takes, if_neg (by omega), if_pos room]

theorem frameEndMove_overrun (takes : st.Takes) (exceeds : st.capacity - st.queue.length < (groupOf m st.live).length) :
    frameEndMove f m p n st = st.overrun f n := by
  have short : ¬(groupOf m st.live).length ≤ st.freeCount := Nat.not_le.2 exceeds
  rw [frameEndMove_takes f m p n takes, if_neg (by omega), if_neg short]

/-- The record of a frame end is the first overrun of a run (R122, R128). -/
theorem frameEndMove_gaps :
    (frameEndMove f m p n st).gaps = if st.dir = .capture ∧ st.state ≠ .disabled ∧ st.sinceStart = true ∧
        st.capacity - st.queue.length < (groupOf m st.live).length ∧ st.xrun = false then
      [{ stream := n, kind := .overrun, frame := f, index := st.counter, lanes := none }] else [] := by
  by_cases takes : st.Takes
  · obtain ⟨dir, on, since⟩ := takes
    by_cases exceeds : st.capacity - st.queue.length < (groupOf m st.live).length
    · rw [frameEndMove_overrun f m p n ⟨dir, on, since⟩ exceeds]
      cases xrun : st.xrun with
      | true =>
        rw [if_neg fun all => nomatch all.2.2.2.2]
        exact if_pos xrun
      | false =>
        rw [if_pos ⟨dir, on, since, exceeds, rfl⟩]
        exact if_neg fun flagged => Bool.false_ne_true (xrun.symm.trans flagged)
    · rw [if_neg fun all => exceeds all.2.2.2.1, frameEndMove_takes f m p n ⟨dir, on, since⟩]
      split
      · rfl
      · exact congrArg StreamMove.gaps (if_pos (Nat.le_of_not_lt exceeds))
  · rw [frameEndMove_idle f m p n takes, if_neg fun all => takes ⟨all.1, all.2.1, all.2.2.1⟩]
    rfl

end

/-! ### The samples of a group -/

theorem numberOf_append (bs : List Bool) (b : Bool) :
    numberOf (bs ++ [b]) = (numberOf bs <<< 1) ||| (BitVec.ofBool b).setWidth 32 := by
  rw [numberOf, List.foldl_append]
  rfl

/-- The number bits spell, first bit most significant, bit by bit (R19). -/
theorem numberOf_getLsbD (bs : List Bool) (short : bs.length ≤ 32) (i : Nat) :
    (numberOf bs).getLsbD i = (bs.reverse[i]?).getD false := by
  induction bs using List.reverseRecOn generalizing i with
  | nil => simp [numberOf]
  | append_singleton bs b ih =>
    rw [List.length_append, List.length_singleton] at short
    rw [numberOf_append, List.reverse_append, List.reverse_singleton, List.singleton_append, BitVec.getLsbD_or,
      BitVec.getLsbD_shiftLeft]
    cases i with
    | zero => simp
    | succ i =>
      have bit : ((BitVec.ofBool b).setWidth 32).getLsbD (i + 1) = false := by simp
      rw [bit, Bool.or_false, List.getElem?_cons_succ, ← ih (by omega)]
      by_cases inside : i + 1 < 32
      · simp [inside]
      · have above : (numberOf bs).getLsbD i = false := by
          rw [ih (by omega), List.getElem?_eq_none (by rw [List.length_reverse]; omega)]
          rfl
        simp [inside, above]

theorem Width.bits_le (w : Width) : w.bits ≤ 32 := by
  cases w <;> decide

/-- A sample is read most significant bit first; the bits above the width are 0 (R19). -/
theorem slotSample_bits (payload : List Bool) (r : SlotRecord) (i : Nat) (inside : 128 ≤ r.start.toNat) :
    (i < r.width.bits → (slotSample payload r).getLsbD i =
      payload.getD (r.start.toNat + r.width.bits - 1 - i - 128) true) ∧
    (r.width.bits ≤ i → (slotSample payload r).getLsbD i = false) := by
  have length : (slotBits payload r).length = r.width.bits := by
    rw [slotBits, List.length_map, List.length_range]
  have spelled := numberOf_getLsbD (slotBits payload r) (by rw [length]; exact r.width.bits_le) i
  rw [slotSample, spelled]
  refine ⟨fun below => ?_, fun above => ?_⟩
  · have place : r.width.bits - 1 - i < r.width.bits := by omega
    have shift : r.start.toNat + (r.width.bits - 1 - i) - 128 = r.start.toNat + r.width.bits - 1 - i - 128 := by omega
    rw [List.getElem?_reverse (by rw [length]; exact below), length, slotBits, List.getElem?_map,
      List.getElem?_range place, ← shift]
    rfl
  · rw [List.getElem?_eq_none (by rw [List.length_reverse, length]; exact above)]
    rfl

/-! ### The frame end of a working link -/

/-- The entry into DOWN leaves the gap list, GAP_OVERFLOW and the XRUN bits. -/
theorem State.enterDown_notes (s : State) : s.enterDown.eu.gaps = s.eu.gaps ∧
    s.enterDown.eu.sticky.getLsbD 10 = s.eu.sticky.getLsbD 10 ∧ s.enterDown.eu.xrun = s.eu.xrun := by
  refine ⟨s.enterDown_gaps, ?_, ?_⟩
  · rw [State.enterDown, State.raise_sticky _ _ (by omega)]
    change (s.stopSurvey.eu.sticky.getLsbD 10 || false) = _
    rw [Bool.or_false, State.stopSurvey]
    split
    · rw [State.endSurvey, State.raise_sticky _ _ (by omega)]
      exact Bool.or_false _
    · rfl
  · change s.linkDownClear.eu.xrun = _
    rw [State.linkDownClear_eu]

/-- A frame end leaves the state with its groups delivered, but for the Frame Engine or the entry into DOWN (R29). -/
theorem State.endFrame_cases {s : State} (answered : s.fe.pos = .answered) (p : List Bool) :
    (s.fe.link = .draining ∧ s.fe.drainHeld = true ∧ 1 ≤ s.fe.quietCount → s.endFrame p = (s.delivered p).enterDown) ∧
    (¬(s.fe.link = .draining ∧ s.fe.drainHeld = true ∧ 1 ≤ s.fe.quietCount) →
      ∃ fe, s.endFrame p = (s.delivered p).setFe fe) := by
  obtain ⟨fe, -⟩ := State.delivered_rest answered p
  rw [State.endFrame_delivered]
  refine ⟨fun ⟨draining, held, second⟩ => ?_, fun goesOn => ?_⟩
  · rw [if_pos (by rw [fe]; exact draining)]
    exact State.drainStep_ends (by rw [fe]; exact held) (by rw [fe]; exact second)
  · split
    next draining =>
      rw [fe] at draining
      exact State.drainStep_goesOn (by rw [fe]; exact fun both => goesOn ⟨draining, both⟩)
    next => exact ⟨(s.delivered p).fe, rfl⟩

/-- What the drain leaves of the events of a frame end. -/
theorem State.endFrame_notes {s : State} (answered : s.fe.pos = .answered) (p : List Bool) :
    (s.endFrame p).eu.gaps = (s.delivered p).eu.gaps ∧
    (s.endFrame p).eu.sticky.getLsbD 10 = (s.delivered p).eu.sticky.getLsbD 10 ∧
    (s.endFrame p).eu.xrun = (s.delivered p).eu.xrun := by
  obtain ⟨down, goesOn⟩ := State.endFrame_cases answered p
  by_cases ends : s.fe.link = .draining ∧ s.fe.drainHeld = true ∧ 1 ≤ s.fe.quietCount
  · rw [down ends]
    exact State.enterDown_notes _
  · obtain ⟨fe, e⟩ := goesOn ends
    rw [e]
    exact ⟨rfl, rfl, rfl⟩

/-- The records of a frame end, stream by stream (R122, R128, R158). -/
theorem State.frameEnd_exact {s : State} (answered : s.fe.pos = .answered) (p : List Bool)
    (serves : s.fe.link = .up ∨ (s.fe.link = .draining ∧ s.fe.drainFromSync = false)) :
    (s.endFrame p).eu.gaps =
      s.eu.gaps ++ ((List.finRange 8).flatMap fun n => (s.endMove p n).gaps).take (16 - s.eu.gaps.length) ∧
    (s.endFrame p).eu.sticky.getLsbD 10 = (s.eu.sticky.getLsbD 10 ||
      decide (16 - s.eu.gaps.length < ((List.finRange 8).flatMap fun n => (s.endMove p n).gaps).length)) := by
  obtain ⟨gaps, sticky, -⟩ := State.endFrame_notes answered p
  rw [gaps, sticky, State.delivered_serving answered p serves]
  exact State.endStreams_exact s.atEnd p

/-- Settles O42: the move of each stream gives its context, the moves in order give the records; the entry into DOWN empties
the live sets after them. -/
theorem captureDeliversWholeGroups : Obligations.CaptureDeliversWholeGroups := by
  refine ⟨fun s p serves answered => ?_, fun payload r i inside => slotSample_bits payload r i inside⟩
  intro ends left group takes records room
  have running : s.fe.running = true := FrameEngine.running_working (serves.imp_right And.left)
  obtain ⟨fe, cx, nd, sm, -, rq⟩ := State.delivered_rest answered p
  obtain ⟨down, goesOn⟩ := State.endFrame_cases answered p
  obtain ⟨gaps, overflow⟩ := State.frameEnd_exact answered p serves
  have ends_iff : ends = true ↔ s.fe.link = .draining ∧ s.fe.drainHeld = true ∧ 1 ≤ s.fe.quietCount := by
    simp only [ends, Bool.and_eq_true, decide_eq_true_iff, and_assoc]
  have records_eq : records = (List.finRange 8).flatMap fun n => (s.endMove p n).gaps :=
    congrArg (List.flatMap · (List.finRange 8)) (funext fun n => (frameEndMove_gaps _ _ _ _).symm)
  have stream (n : Fin 8) : (s.endFrame p).su.streams[n] = left (s.endMove p n).stream := by
    by_cases e : ends = true
    · rw [down (ends_iff.1 e), State.enterDown_su, StreamUnit.linkDownClear_stream,
        State.delivered_stream answered p serves]
      exact (if_pos e).symm
    · obtain ⟨fe', same⟩ := goesOn (mt ends_iff.2 e)
      rw [same]
      exact (State.delivered_stream answered p serves n).trans (if_neg e).symm
  refine ⟨_, exec_frameEnd_answered running answered p, fun up => ?_, fun e => ?_, ?_, ?_, fun n => ?_⟩
  · rw [State.endFrame_delivered, if_neg (by rw [fe]; exact fun draining => nomatch up.symm.trans draining), fe]
  · obtain ⟨fe', same⟩ := goesOn (mt ends_iff.2 (by rw [e]; nofun))
    rw [same]
    exact ⟨sm, nd, cx, rq⟩
  · rw [gaps, records_eq]
  · rw [overflow, records_eq]
  · rw [stream n]
    have judged (st : Stream) : (left st.judged).drqLevel = st.drqLevel := by
      by_cases e : ends = true
      · have emptied : left st.judged = { st.judged with live := [], sinceStart := false } := if_pos e
        rw [emptied]
        rfl
      · have kept : left st.judged = st.judged := if_neg e
        rw [kept]
        rfl
    refine ⟨fun idle => ?_, fun takes alone => ?_, fun takes some' fits => ?_, fun takes exceeds => ?_⟩
    · exact congrArg (fun m : StreamMove => left m.stream) (frameEndMove_idle _ _ _ _ idle)
    · exact congrArg (fun m : StreamMove => left m.stream) (frameEndMove_none _ _ _ _ takes alone)
    · have move : s.endMove p n = _ := frameEndMove_fits _ _ _ _ takes some' fits
      have length : (groupSamples p (group n)).length = (group n).length := List.length_map _
      rw [move, Stream.deliver, length]
      exact ⟨_, rfl, (judged _).symm⟩
    · have move : s.endMove p n = _ := frameEndMove_overrun _ _ _ _ takes exceeds
      refine ⟨satInc s.su.streams[n].overruns, satInc_toNat _, ?_, ?_⟩
      · rw [move]
        rfl
      · rw [(State.endFrame_notes answered p).2.2, State.delivered_serving answered p serves]
        exact State.endStreams_xrun s.atEnd p n (congrArg StreamMove.xrun move)

end Sys2Proof.Machine
end

section
/-! PROOFS. The third contention frame in a row and the entry into FAULT (chapters 2.5, 2.6, 6.8, 7.10 and 9.4). -/
namespace Sys2Proof.Machine

/-! ### The entry into FAULT, block by block -/

theorem State.enterFault_fe (s : State) : s.enterFault.fe = { s.fe.linkDownClear with link := .fault } := by
  simp [State.enterFault, State.setLink]

theorem State.enterFault_cx (s : State) : s.enterFault.cx = s.cx.linkDownClear := by
  simp [State.enterFault]

theorem State.enterFault_ce (s : State) : s.enterFault.ce = s.failCommit.ce.linkDownClear := by
  have kept : s.failInFlightRequest.failCommit.ce = s.failCommit.ce := by
    unfold State.failCommit
    rw [State.failInFlightRequest_ce]
    split
    · exact State.failInFlightRequest_ce s
    · simp only [State.abortLinkStop, State.raise_ce, State.setCe_ce, State.failInFlightRequest_ce]
  simp [State.enterFault, kept]

theorem State.enterFault_rq (s : State) : s.enterFault.rq = s.failInFlightRequest.rq.linkDownClear := by
  simp [State.enterFault]

theorem State.enterFault_sv (s : State) (running : s.sv.state.isRunning = true) :
    s.enterFault.sv = { state := .finished, result := { s.sv.result with outcome := .stopped }, binding := none } := by
  have kept : s.failInFlightRequest.failCommit.sv = s.sv := by simp
  change s.failInFlightRequest.failCommit.linkDownClear.sv = _
  rw [State.linkDownClear_sv, State.stopSurvey, if_pos (by rw [kept]; exact running), ← kept]
  rfl

/-! ### What the entry raises -/

theorem State.stopSurvey_sticky (s : State) {i : Nat} (h : i < 12) :
    s.stopSurvey.eu.sticky.getLsbD i = (s.eu.sticky.getLsbD i || (s.sv.state.isRunning && decide (i = 3))) := by
  unfold State.stopSurvey
  cases running : s.sv.state.isRunning with
  | true =>
    rw [if_pos rfl, Bool.true_and]
    exact State.raise_sticky _ .surveyDone h
  | false => rw [if_neg nofun, Bool.false_and, Bool.or_false]

theorem State.failCommit_sticky (s : State) {i : Nat} (h : i < 12) :
    s.failCommit.eu.sticky.getLsbD i = (s.eu.sticky.getLsbD i || (decide (s.ce.phase ≠ .idle) && decide (i = 7))) := by
  unfold State.failCommit
  by_cases idle : s.ce.phase = .idle
  · rw [if_pos idle, decide_eq_false (not_not_intro idle), Bool.false_and, Bool.or_false]
  · rw [if_neg idle, decide_eq_true idle, Bool.true_and]
    exact State.raise_sticky _ .commitDone h

/-- The events the entry into FAULT raises: LINK_FAULT, and the ends of a commit and of a survey (R32, R75, R108). -/
theorem State.enterFault_sticky (s : State) {i : Nat} (h : i < 12) :
    s.enterFault.eu.sticky.getLsbD i = (((s.eu.sticky.getLsbD i || (decide (s.ce.phase ≠ .idle) && decide (i = 7))) ||
      (s.sv.state.isRunning && decide (i = 3))) || decide (i = 2)) := by
  have raised := State.raise_sticky (s.failInFlightRequest.failCommit.linkDownClear.setLink .fault) .linkFault h
  have cleared : (s.failInFlightRequest.failCommit.linkDownClear.setLink .fault).eu =
      s.failInFlightRequest.failCommit.stopSurvey.eu := rfl
  rw [cleared, State.stopSurvey_sticky _ h, State.failCommit_sticky _ h, State.failCommit_sv, State.failInFlightRequest_sv,
    State.failInFlightRequest_ce, State.failInFlightRequest_eu] at raised
  exact raised

/-! ### The request in flight -/

/-- A request in flight completes LINK_DOWN, and the requests behind it wait on (R150). -/
theorem State.failInFlightRequest_request {s : State} {r : InFlight} {q : Request} {rest : List Request}
    (held : s.cx.inFlight = some r) (source : r.source = .request) (queue : s.rq.queue = q :: rest) :
    s.failInFlightRequest.rq = { s.rq with
      queue := rest
      completions := s.rq.completions ++ [{ tag := q.tag, kind := q.op.kind, addr := q.addr, outcome := .linkDown
                                            data := none, attempts := r.attempt }] } := by
  rw [State.failInFlightRequest, held]
  simp only [source, queue, State.complete_rq, List.tail_cons]

theorem State.failInFlightRequest_other {s : State} (other : ∀ r, s.cx.inFlight = some r → r.source ≠ .request) :
    s.failInFlightRequest = s := by
  unfold State.failInFlightRequest
  split
  next r held =>
    split
    next source _ => exact absurd source (other r held)
    next => rfl
  next => rfl

/-- Settles O41: the entry into FAULT, block by block, with the request in flight and the commit ended before the clear. -/
theorem contentionFaultEntersFault : Obligations.ContentionFaultEntersFault := by
  intro s before run
  have third : Config.contentionLimit ≤ s.fe.contentionRun + 1 := Nat.succ_le_succ run
  let u := s.setFe { s.fe with
    contentionCount := satInc s.fe.contentionCount, contentionRun := s.fe.contentionRun + 1, pos := .compared }
  have entered : s.contention = u.enterFault := if_pos third
  have fault : exec .contentionFault s = .next u.enterFault :=
    congrArg Host.Outcome.next ((if_pos ⟨before, third⟩).trans entered)
  have idle_ce (idle : s.ce.phase = .idle) : u.failCommit = u := if_pos idle
  have active_ce (active : s.ce.phase ≠ .idle) : u.failCommit = u.abortLinkStop s.ce.acked := if_neg active
  refine ⟨_, fault, fun line wrong => ?_, ?_, ?_, ?_, ?_, ?_, fun a => allFree_get a, fun k => ?_, ?_, ?_, ?_,
    fun idle => ?_, fun active => ⟨?_, ?_⟩, fun running => ⟨?_, ?_, ?_⟩, ?_,
    ⟨fun r q rest held source queue room => ?_, fun other => ?_⟩, fun n => ?_, ?_, ?_⟩
  · exact congrArg Host.Outcome.next ((if_pos before).trans ((if_neg wrong).trans entered))
  · rw [State.enterFault_fe]
  · rw [State.enterFault_fe]
    rfl
  · rw [State.enterFault_fe]
    rfl
  · rw [State.enterFault_fe]
    exact satInc_toNat _
  · exact State.enterFault_cx u
  · rw [State.enterFault_sm]
    exact empty_get k
  · rw [State.enterFault_ce]
    exact State.failCommit_idle u
  · rw [State.enterFault_ce]
    rfl
  · rw [State.enterFault_ce]
    rfl
  · rw [State.enterFault_ce, idle_ce idle]
    rfl
  · rw [State.enterFault_sticky _ (by omega), show u.ce.phase = s.ce.phase from rfl, decide_eq_true active]
    simp
  · rw [State.enterFault_ce, active_ce active]
    rfl
  · rw [State.enterFault_sv u running]
  · rw [State.enterFault_sv u running]
  · rw [State.enterFault_sticky _ (by omega), show u.sv.state.isRunning = true from running]
    simp
  · rw [State.enterFault_rq]
    rfl
  · rw [State.enterFault_rq, State.failInFlightRequest_request (s := u) held source queue]
    exact ⟨rfl, rfl⟩
  · rw [State.enterFault_rq, State.failInFlightRequest_other (s := u) other]
    exact ⟨rfl, rfl⟩
  · rw [State.enterFault_su]
    exact u.su.linkDownClear_stream n
  · rw [State.enterFault_sticky _ (by omega)]
    simp
  · rw [State.enterFault_sticky _ (by omega)]
    simp [show u.eu = s.eu from rfl]

end Sys2Proof.Machine
end
